-- ==== Sys2Proof/Word.lean ====
section
/-! DEFINITION. The two word types that frames carry (spec 09, R184): a byte and a field of two bytes. -/

namespace Sys2Proof

/-- One byte of a frame. -/
abbrev Byte := BitVec 8

/-- One little-endian field of two bytes, as a number of 16 bits. -/
abbrev U16 := BitVec 16

end Sys2Proof
end

