-- ==== Sys2Proof/Syntax.lean ====
section
/-! DEFINITION. The ports, the loads, and the commands of the CPC-340: one constructor of Instr for each row of
spec/opcode_table.json. -/

namespace Sys2Proof

/-- The three Target Ports, one for each controller (spec 00, 09). -/
inductive Port where
  | supply
  | climate
  | dispatch
deriving DecidableEq, Repr

/-- The six loads, in load-number order (spec 04, R73). -/
inductive Load where
  | blw
  | hpc
  | air
  | scr
  | seat
  | bat
deriving DecidableEq, Repr

/-- Where the end of a write transaction falls (R164, R167): at a stop or a repeated start after the bytes given; later,
so that the write goes on; or within the next service at its port, when the service has acted and its response is not
installed yet. -/
inductive WriteEnd where
  | stop
  | goesOn
  | inService
deriving DecidableEq, Repr

/-- What a command gives of a write transaction: bytes in order, and where its end falls. -/
structure WriteData where
  bytes : List Byte
  ends : WriteEnd
deriving DecidableEq, Repr

/-- One value for each port. -/
structure PerPort (α : Type) where
  supply : α
  climate : α
  dispatch : α
deriving DecidableEq, Repr

/-- One value for each load, in load-number order (R73). -/
structure PerLoad (α : Type) where
  blw : α
  hpc : α
  air : α
  scr : α
  seat : α
  bat : α
deriving DecidableEq, Repr

/-- The commands. A request names the port that sends it and the fields of its payload (spec 09, 9.7), each with
the full range of its width on the wire (R184). The other commands are events at a port, events of the time base,
and resets. -/
inductive Instr where
  /-- R180. -/
  | statusQuery (p : Port)
  /-- R156. -/
  | eventQuery (p : Port)
  /-- R159. -/
  | eventMaskSet (p : Port) (mask : U16)
  /-- R169. -/
  | portModeSet (p : Port) (mode : Byte)
  /-- R86: Inhibit Claim with action 1. -/
  | inhibitClaimSet (p : Port) (load : Byte)
  /-- R87: Inhibit Claim with action 2. -/
  | inhibitClaimClear (p : Port) (load : Byte)
  /-- R87: Inhibit Claim with action 0. -/
  | inhibitClaimTest (p : Port) (load : Byte)
  /-- R15. -/
  | replan (p : Port)
  /-- R45. -/
  | slotQuery (p : Port) (index : Byte)
  /-- R190. -/
  | outcomeQuery (p : Port) (index : Byte)
  /-- R144. -/
  | profileFieldRead (p : Port) (bank field : Byte)
  /-- R194. -/
  | resetCauseQuery (p : Port)
  /-- R194. -/
  | resetCauseClear (p : Port)
  /-- R181. -/
  | settingRead (p : Port) (id : Byte)
  /-- R177: a frame that is no well-formed request of the catalogue, byte by byte as it was written. -/
  | unknownRequest (p : Port) (bytes : List Byte)
  /-- R98. -/
  | envelope (p : Port) (link : Byte) (grid pack hold : U16)
  /-- R112. -/
  | floorSet (p : Port) (floor : Byte)
  /-- R117. -/
  | drawQuery (p : Port)
  /-- R119, R120. -/
  | sensorReport (p : Port) (tCab tOut tPack : U16) (door : Byte)
  /-- R93. -/
  | actuatorStatus (p : Port) (sequence : Byte) (states : PerLoad Byte) (draws : PerLoad U16)
  /-- R96. -/
  | grantQuery (p : Port)
  /-- R83. -/
  | clearFault (p : Port) (load : Byte)
  /-- R56. -/
  | copEntryWrite (p : Port) (index : Byte) (value : U16)
  /-- R74. -/
  | loadLimitSet (p : Port) (load : Byte) (limit : U16)
  /-- R123. -/
  | sensorTimeoutSet (p : Port) (timeout : Byte)
  /-- R2, R13. -/
  | departureSet (p : Port) (value : U16) (unit mode : Byte) (period : U16)
  /-- R16. -/
  | cancel (p : Port)
  /-- R14. -/
  | selectBank (p : Port) (bank : Byte)
  /-- R143. -/
  | profileFieldWrite (p : Port) (bank field : Byte) (value : U16)
  /-- R24. -/
  | slotLengthSet (p : Port) (seconds : U16)
  /-- R182. -/
  | softReset (p : Port)
  /-- R164, R166, R167: a write transaction on the port's bus, to the address given, carries the bytes given, or carries
  on with them where a write is in progress. -/
  | finishedWrite (p : Port) (address : BitVec 7) (data : WriteData)
  /-- R165, R170 to R172: a read transaction on the port's bus begins and clocks `count` bytes. `stops` says whether
  its stop falls before the next command. -/
  | responseRead (p : Port) (address : BitVec 7) (count : Nat) (stops : Bool)
  /-- R171: 25 ms of stretching have passed at the port. -/
  | stretchLimit (p : Port)
  /-- R173: the read in progress on the port's bus clocks `count` bytes more and stops. -/
  | deferredInstallation (p : Port) (count : Nat)
  /-- R3. -/
  | timeBaseTick
  /-- R5. -/
  | departureExpiry
  /-- R7, R8. -/
  | scheduleCheck
  /-- R30. -/
  | planCompletion
  /-- R12. -/
  | phaseChange
  /-- R48. -/
  | slotStart
  /-- R103 to R105. -/
  | holdTimerExpiry
  /-- R78. -/
  | startTimeout
  /-- R81. -/
  | cooldownEnd
  /-- R82. -/
  | minimumOnEnd
  /-- R61. -/
  | windscreenEnergySpent
  /-- R122. -/
  | sensorTimerExpiry
  /-- R191. -/
  | powerOnReset
  /-- R191. -/
  | pinReset
  /-- R161, R191: the levels of ADSEL1 and ADSEL0 at the release (R163). -/
  | resetRelease (adsel1 adsel0 : Bool)
deriving DecidableEq, Repr

end Sys2Proof
end

