-- ==== Sys2Proof/Decode.lean ====
section
/-! DEFINITION. The command that a word spells by the bits of spec/opcode_table.json. No row of the table gives bits, so
no word spells a command; the request frames, which do have layouts (spec 09, 9.7), are in Machine/Frames.lean. -/

namespace Sys2Proof

/-- No row of the table has bits: none for every word. -/
def decodeTableWord (_nbits _w : Nat) : Option Instr := none

end Sys2Proof
end

