-- ==== Sys2Proof/Config.lean ====
section
/-! DEFINITION. What the spec leaves to the board around the part. The spec leaves no value of the part itself open. -/

namespace Sys2Proof.Config

/-- The levels of ADSEL1 and ADSEL0 (bits 1 and 0) at the release of the power-on reset that
`Machine.State.reset` stands after. DESIGN CHOICE, unsafe: the board chooses them (R163); see log 1. -/
def straps : BitVec 2 := 0

end Sys2Proof.Config
end

