-- ==== Sys2Proof/Machine/Collections.lean ====
section
/-! DEFINITION. Reading, writing and building the collections of one value per port and one value per load, in the
orders the spec gives ports (09, R174) and loads (04, R73), and the load table (04, 4.1). -/

namespace Sys2Proof

namespace PerPort

variable {α β : Type}

def get (x : PerPort α) : Port → α
  | .supply => x.supply
  | .climate => x.climate
  | .dispatch => x.dispatch

def set (x : PerPort α) (p : Port) (v : α) : PerPort α :=
  match p with
  | .supply => { x with supply := v }
  | .climate => { x with climate := v }
  | .dispatch => { x with dispatch := v }

def ofFn (f : Port → α) : PerPort α := ⟨f .supply, f .climate, f .dispatch⟩

def all (v : α) : PerPort α := ⟨v, v, v⟩

/-- A set of ports, held as one mark for each, has a member. -/
def nonempty (x : PerPort Bool) : Bool := x.supply || x.climate || x.dispatch

end PerPort

namespace Port

/-- The port after `p` in the rotation SUPPLY, CLIMATE, DISPATCH (R174). -/
def next : Port → Port
  | .supply => .climate
  | .climate => .dispatch
  | .dispatch => .supply

/-- The place of the port's address above the base address (R163). -/
def index : Port → Nat
  | .supply => 0
  | .climate => 1
  | .dispatch => 2

end Port

namespace PerLoad

variable {α β : Type}

def get (x : PerLoad α) : Load → α
  | .blw => x.blw
  | .hpc => x.hpc
  | .air => x.air
  | .scr => x.scr
  | .seat => x.seat
  | .bat => x.bat

def set (x : PerLoad α) (l : Load) (v : α) : PerLoad α :=
  match l with
  | .blw => { x with blw := v }
  | .hpc => { x with hpc := v }
  | .air => { x with air := v }
  | .scr => { x with scr := v }
  | .seat => { x with seat := v }
  | .bat => { x with bat := v }

def ofFn (f : Load → α) : PerLoad α := ⟨f .blw, f .hpc, f .air, f .scr, f .seat, f .bat⟩

def all (v : α) : PerLoad α := ⟨v, v, v, v, v, v⟩

/-- The six values in load-number order (R73). -/
def toList (x : PerLoad α) : List α := [x.blw, x.hpc, x.air, x.scr, x.seat, x.bat]

/-- The sum of the six values. -/
def sum (x : PerLoad Nat) : Nat := x.blw + x.hpc + x.air + x.scr + x.seat + x.bat

end PerLoad

namespace Load

/-- The loads in load-number order (R73). -/
def all : List Load := [.blw, .hpc, .air, .scr, .seat, .bat]

/-- The load number (R73). -/
def number : Load → Nat
  | .blw => 0
  | .hpc => 1
  | .air => 2
  | .scr => 3
  | .seat => 4
  | .bat => 5

/-- The load that a load number of a frame names; none for 6 and above (R74, R83, R85). -/
def ofNumber (n : Nat) : Option Load := all[n]?

/-! The load table (04, 4.1). -/

/-- The loads whose grant may be any multiple of their step (R73). -/
def modulating : Load → Bool
  | .hpc => true
  | .air => true
  | .bat => true
  | .blw => false
  | .scr => false
  | .seat => false

/-- The minimum of each load, in watts. -/
def minimum : Load → Nat
  | .blw => 120
  | .hpc => 800
  | .air => 250
  | .scr => 1200
  | .seat => 150
  | .bat => 250

/-- The silicon maximum of each load, in watts. -/
def siliconMax : Load → Nat
  | .blw => 400
  | .hpc => 4500
  | .air => 6000
  | .scr => 1200
  | .seat => 300
  | .bat => 5000

/-- The step of a modulating load, in watts; 1 for a level load, which has none. -/
def step : Load → Nat
  | .hpc => 100
  | .air => 250
  | .bat => 250
  | .blw => 1
  | .scr => 1
  | .seat => 1

/-- A load that runs only while the blower does (R67). -/
def needsBlower : Load → Bool
  | .hpc => true
  | .air => true
  | .blw => false
  | .scr => false
  | .seat => false
  | .bat => false

end Load

end Sys2Proof
end

