-- ==== Sys2Proof/Machine/Blocks.lean ====
section
/-! DEFINITION. The state of each block of the CPC-340 as plain data, and the value each block has after a power-on
reset. -/

namespace Sys2Proof.Machine

/-! ### Profile Store (spec 07) -/

/-- One value for each of the 25 profile fields (07, 7.1). Temperatures are signed, all others unsigned. -/
structure Profile where
  tSet : Int
  blowerLevel : Nat
  seatLevel : Nat
  seatLead : Nat
  scrEnergy : Nat
  scrWindow : Nat
  tPackTarget : Int
  cPack : Nat
  cCab : Nat
  ua : Nat
  cabShare : Nat
  margin : Nat
  settle : Nat
  wRes : Nat
  fallbackW : Nat
  allowPack : Nat
  levelHpc : Nat
  levelAir : Nat
  levelScr : Nat
  levelSeat : Nat
  levelBat : Nat
  wTrack : Nat
  abortOnLoss : Nat
  lossLimit : Nat
  tAssume : Int
deriving DecidableEq, Repr

/-- The names of the 25 fields, in the order of their ids. -/
inductive Field where
  | tSet | blowerLevel | seatLevel | seatLead | scrEnergy | scrWindow | tPackTarget | cPack | cCab | ua
  | cabShare | margin | settle | wRes | fallbackW | allowPack | levelHpc | levelAir | levelScr | levelSeat
  | levelBat | wTrack | abortOnLoss | lossLimit | tAssume
deriving DecidableEq, Repr

/-- The four banks (R141). -/
structure Banks where
  bank0 : Profile
  bank1 : Profile
  bank2 : Profile
  bank3 : Profile
deriving DecidableEq, Repr

structure StoreBlock where
  banks : Banks
  active : Fin 4
deriving DecidableEq, Repr

/-- Every field at its default (07, 7.1). -/
def Profile.default : Profile where
  tSet := 210
  blowerLevel := 2
  seatLevel := 1
  seatLead := 600
  scrEnergy := 900
  scrWindow := 900
  tPackTarget := 50
  cPack := 300
  cCab := 120
  ua := 90
  cabShare := 70
  margin := 25
  settle := 120
  wRes := 400
  fallbackW := 2300
  allowPack := 0
  levelHpc := 1
  levelAir := 2
  levelScr := 0
  levelSeat := 3
  levelBat := 2
  wTrack := 10
  abortOnLoss := 0
  lossLimit := 3
  tAssume := -200

/-- R151. -/
def StoreBlock.powerOn : StoreBlock where
  banks := ⟨.default, .default, .default, .default⟩
  active := 0

/-! ### Run Controller (spec 01) -/

/-- R1. -/
inductive RunState where
  | idle | scheduled | planning | conditioning | maintain
deriving DecidableEq, Repr

/-- R9. -/
inductive Origin where
  | start | replan
deriving DecidableEq, Repr

/-- R2. -/
inductive DepartureUnit where
  | fine | coarse
deriving DecidableEq, Repr

/-- R2. -/
inductive DepartureMode where
  | oneShot | repeating
deriving DecidableEq, Repr

structure RunBlock where
  state : RunState
  remaining : Nat
  counting : Bool
  unit : DepartureUnit
  mode : DepartureMode
  period : Nat
  nextRun : Nat
  origin : Option Origin
  held : PerPort Bool
  /-- The model's own: the schedule check that the last tick brought (R7) has not been made yet. -/
  checkDue : Bool
deriving DecidableEq, Repr

/-- R22. -/
def RunBlock.powerOn : RunBlock where
  state := .idle
  remaining := 0
  counting := false
  unit := .fine
  mode := .oneShot
  period := 720
  nextRun := 1
  origin := none
  held := .all false
  checkDue := false

/-! ### Plan Generator (spec 02) -/

/-- The result flags of a slot (R69). -/
structure SlotFlags where
  deficit : Bool
  clamped : Bool
  shortfall : Bool
  noneGranted : Bool
  openLoop : Bool
  fallback : Bool
deriving DecidableEq, Repr

/-- The actual part of a slot entry (R44). -/
structure ActualPart where
  grants : PerLoad Nat
  flags : SlotFlags
  sheds : Nat
  cabEnd : Option Int
deriving DecidableEq, Repr

/-- A slot table entry (R42, R44). Its index is its place in the table. -/
structure SlotEntry where
  start : Nat
  stop : Nat
  trajEnd : Int
  forecast : Nat
  actual : Option ActualPart
deriving DecidableEq, Repr

/-- The plan record (02, 2.1). S is the run profile's S, and the entry count is the table's length. -/
structure PlanRecord where
  profile : Profile
  bank : Fin 4
  rPlan : Nat
  t0 : Int
  tOut : Int
  packPlanned : Bool
  slotLength : Nat
  slots : List SlotEntry
deriving DecidableEq, Repr

/-- The capture of a plan generation (R25). -/
structure Capture where
  profile : Profile
  bank : Fin 4
  tCab : Option Int
  tOut : Option Int
  tPack : Option Int
  budget : Nat
  rPlan : Nat
  slotLength : Nat
  hpcLimit : Nat
  airLimit : Nat
  hpcAvailable : Bool
  airAvailable : Bool
  cop : Nat
deriving DecidableEq, Repr

structure PlanBlock where
  slotLength : Nat
  plan : Option PlanRecord
  capture : Option Capture
deriving DecidableEq, Repr

/-- R23. -/
def PlanBlock.powerOn : PlanBlock where
  slotLength := 120
  plan := none
  capture := none

/-! ### Slot Allocator (spec 03) -/

/-- The COP table, in percent (R55). -/
structure CopTable where
  c0 : Nat
  c1 : Nat
  c2 : Nat
  c3 : Nat
  c4 : Nat
  c5 : Nat
  c6 : Nat
  c7 : Nat
deriving DecidableEq, Repr

structure SlotBlock where
  cop : CopTable
  /-- The remaining windscreen energy, in joules (R61). -/
  screenEnergy : Nat
  openSlot : Option Nat
  reportSeen : Bool
deriving DecidableEq, Repr

/-- R55. -/
def CopTable.default : CopTable := ⟨100, 130, 160, 200, 250, 300, 350, 400⟩

/-- R72. -/
def SlotBlock.powerOn : SlotBlock where
  cop := .default
  screenEnergy := 0
  openSlot := none
  reportSeen := false

/-! ### Load Manager (spec 04) -/

/-- 04, 4.3. -/
inductive LoadState where
  | off | starting | running | cooldown | faulted
deriving DecidableEq, Repr

/-- R76. -/
inductive FaultCause where
  | noStart | reported | dropped
deriving DecidableEq, Repr

/-- R88. -/
inductive Reason where
  | granted | noDemand | budget | inhibited | faulted | cooldown | floor | blower | shed
deriving DecidableEq, Repr

/-- R76. -/
structure LoadRecord where
  state : LoadState
  age : Nat
  claims : PerPort Bool
  cause : Option FaultCause
deriving DecidableEq, Repr

structure LoadBlock where
  records : PerLoad LoadRecord
  hpcLimit : Nat
  airLimit : Nat
  batLimit : Nat
  sequence : Byte
  grants : PerLoad Nat
  reasons : PerLoad Reason
  ackGrants : PerLoad Nat
  ackCurrent : Bool
  forcedOff : Nat
deriving DecidableEq, Repr

/-- R97. -/
def LoadRecord.clear : LoadRecord := ⟨.off, 0, .all false, none⟩

/-- R97. -/
def LoadBlock.powerOn : LoadBlock where
  records := .all .clear
  hpcLimit := 4500
  airLimit := 6000
  batLimit := 5000
  sequence := 0
  grants := .all 0
  reasons := .all .noDemand
  ackGrants := .all 0
  ackCurrent := false
  forcedOff := 0

/-! ### Envelope Monitor (spec 05) -/

/-- 05, 5.3. -/
inductive EnvelopeState where
  | none | live | lost
deriving DecidableEq, Repr

/-- R100. -/
inductive Source where
  | live | fallback
deriving DecidableEq, Repr

/-- R98. -/
structure Envelope where
  connected : Bool
  grid : Nat
  pack : Nat
  hold : Nat
deriving DecidableEq, Repr

structure PowerBlock where
  latest : Option Envelope
  holdTimer : Option Nat
  state : EnvelopeState
  envLost : Bool
  source : Source
  budget : Nat
  floor : Nat
  overdraw : Nat
  measured : Nat
deriving DecidableEq, Repr

/-- R118: the budget is fallback_w less W_res of the bank that is active after the reset. -/
def PowerBlock.afterReset (active : Profile) : PowerBlock where
  latest := none
  holdTimer := none
  state := .none
  envLost := false
  source := .fallback
  budget := active.fallbackW - active.wRes
  floor := 3
  overdraw := 0
  measured := 0

/-! ### Tracking Monitor (spec 06) -/

/-- 06, 6.3. -/
inductive TrackerState where
  | idle | acq1 | acq2 | onTrack | held
deriving DecidableEq, Repr

/-- R138. -/
inductive Readiness where
  | none | ready | onTime | atRisk | late | unreachable
deriving DecidableEq, Repr

/-- The plan heating time (R136): none before the first plan, the t_heat of the lead arithmetic, or unreachable. -/
inductive Heating where
  | none
  | seconds (n : Nat)
  | unreachable
deriving DecidableEq, Repr

structure TrackBlock where
  tCab : Option Int
  tOut : Option Int
  tPack : Option Int
  doorOpen : Bool
  sensorTimer : Option Nat
  sensorTimeout : Nat
  sensorLost : Bool
  openLoop : Bool
  tracker : TrackerState
  holdDoor : Bool
  holdSensor : Bool
  acquisition : Nat
  track : Bool
  tracks : Bool
  lossCount : Nat
  heating : Heating
  readiness : Readiness
  margin : Int
deriving DecidableEq, Repr

/-- R140. -/
def TrackBlock.powerOn : TrackBlock where
  tCab := none
  tOut := none
  tPack := none
  doorOpen := false
  sensorTimer := none
  sensorTimeout := 10
  sensorLost := false
  openLoop := false
  tracker := .idle
  holdDoor := false
  holdSensor := false
  acquisition := 0
  track := false
  tracks := false
  lossCount := 0
  heating := .none
  readiness := .none
  margin := 0

/-! ### Event Router (spec 08) -/

/-- The fifteen kinds, in the order of their codes (08, 8.1). -/
inductive EventKind where
  | runStarted | runEnded | planDone | slotDone | grantChanged | shed | overdraw | envLost | sensorLost
  | trackAcquired | trackLost | loadFault | readinessChanged | portOverflow | resetDone
deriving DecidableEq, Repr

/-- A mask and a pending set are sets of kinds in the form frames carry them (R184): bit n for kind n. -/
structure RouterBlock where
  masks : PerPort U16
  pendings : PerPort U16
deriving DecidableEq, Repr

/-- The code of a kind: its place in every set of kinds (08, 8.1). -/
def EventKind.code : EventKind → Nat
  | .runStarted => 0
  | .runEnded => 1
  | .planDone => 2
  | .slotDone => 3
  | .grantChanged => 4
  | .shed => 5
  | .overdraw => 6
  | .envLost => 7
  | .sensorLost => 8
  | .trackAcquired => 9
  | .trackLost => 10
  | .loadFault => 11
  | .readinessChanged => 12
  | .portOverflow => 13
  | .resetDone => 14

/-- The set that holds one kind alone (R184). -/
def EventKind.bit (k : EventKind) : U16 := 1#16 <<< k.code

/-- The set that holds the kinds listed. -/
def EventKind.setOf (ks : List EventKind) : U16 := ks.foldl (fun a k => a ||| k.bit) 0

/-- The default masks (R161). -/
def RouterBlock.defaultMasks : PerPort U16 where
  supply := EventKind.setOf [.runStarted, .runEnded, .shed, .overdraw, .envLost, .portOverflow, .resetDone]
  climate := EventKind.setOf [.grantChanged, .sensorLost, .loadFault, .runEnded, .portOverflow, .resetDone]
  dispatch := EventKind.setOf [.runStarted, .runEnded, .readinessChanged, .trackLost, .portOverflow, .resetDone]

/-- R161, R162: while a reset is in progress nothing is pending, so the three attention lines are released. -/
def RouterBlock.inReset : RouterBlock := ⟨RouterBlock.defaultMasks, .all 0⟩

/-- R161. -/
def RouterBlock.atRelease : RouterBlock := ⟨RouterBlock.defaultMasks, .all EventKind.resetDone.bit⟩

/-! ### Port Interface (spec 09) -/

/-- A request frame as the port stored it (R164): up to 32 bytes, and the too-long mark. -/
structure Frame where
  bytes : List Byte
  tooLong : Bool
deriving DecidableEq, Repr

/-- The receive state with the frame in the receive buffer (09, 9.2). A frame in service may have a response whose
installation waits for the stop of a read (R168, R173). -/
inductive RxState where
  | empty
  | pending (f : Frame)
  | inService (f : Frame) (deferred : Option (List Byte))
deriving DecidableEq, Repr

/-- R169. -/
inductive ResponseMode where
  | hold | prepared
deriving DecidableEq, Repr

structure TargetPort where
  rx : RxState
  response : List Byte
  mode : ResponseMode
  overflow : Bool
deriving DecidableEq, Repr

/-- The transaction in progress on a port's bus: none; a read that the port is stretching, with the bytes it is to clock
and whether it then stops (R171); a read that is returning the bytes of a frame, with how many it has returned (R165,
R173); a read that a reset has ended while the controller still clocks (R182); a write, with the scratch frame that it
has filled so far (R164), and whether its stop falls within the next service at the port (R167). -/
inductive Transaction where
  | idle
  | stretched (count : Nat) (stops : Bool)
  | returning (frame : List Byte) (sent : Nat)
  | released
  | writing (scratch : Frame) (inService : Bool)
deriving DecidableEq, Repr

/-- A port's bus, with the bytes that its last read has returned (the model's own record of them). -/
structure Bus where
  transaction : Transaction
  data : List Byte
deriving DecidableEq, Repr

structure PortBlock where
  ports : PerPort TargetPort
  rotation : Port
  straps : BitVec 2
deriving DecidableEq, Repr

/-- The NONE response: status 0x03, code answered 0x00, length 0 (R179). -/
def noneResponse : List Byte := [0x03, 0x00, 0x00]

/-- R183. -/
def TargetPort.clear : TargetPort := ⟨.empty, noneResponse, .hold, false⟩

/-- R183. -/
def PortBlock.afterReset (straps : BitVec 2) : PortBlock := ⟨.all .clear, .dispatch, straps⟩

/-! ### Outcome Log (spec 10) -/

/-- 01, 1.6. -/
inductive EndCause where
  | departed | cancelled | trackLost | reset
deriving DecidableEq, Repr

/-- R185. Granted energies are in kJ. -/
structure OutcomeEntry where
  run : Nat
  cause : EndCause
  bank : Fin 4
  tCab : Option Int
  tSet : Int
  readiness : Readiness
  tracks : Bool
  envLost : Bool
  sensorLost : Bool
  lossCount : Nat
  sheds : Nat
  duration : Nat
  energy : PerLoad Nat
deriving DecidableEq, Repr

/-- The reset cause record, also used for the kinds of a reset in progress (R191, R193). -/
structure ResetCauses where
  por : Bool
  pin : Bool
  soft : Bool
deriving DecidableEq, Repr

/-- The run accumulators (R186). Granted energies are in joules. -/
structure Accumulators where
  sheds : Nat
  duration : Nat
  energy : PerLoad Nat
  planCompleted : Bool
deriving DecidableEq, Repr

/-- What of a tick is still to come (log 4): nothing; its end alone, since the run in progress started within the tick and
the tick fell before it; or its count by the grants (R61, R187). -/
inductive CountDue where
  | none | outside | due
deriving DecidableEq, Repr

/-- What a START generation leaves of the tick it falls in: that tick is none of the new run's (R187). -/
def CountDue.atStart : CountDue → CountDue
  | .none => .none
  | .outside => .outside
  | .due => .outside

/-- The Outcome Log. `countDue` is the model's own (log 4): what of the tick in progress is still to come. -/
structure LogBlock where
  entries : List OutcomeEntry
  acc : Accumulators
  interrupted : Option OutcomeEntry
  causes : ResetCauses
  countDue : CountDue
deriving DecidableEq, Repr

/-- R186. -/
def Accumulators.zero : Accumulators := ⟨0, 0, .all 0, false⟩

/-- R195: the values at the release of a power-on reset. -/
def LogBlock.powerOn : LogBlock := ⟨[], .zero, none, ⟨true, false, false⟩, .none⟩

end Sys2Proof.Machine
end

