-- ==== Sys2Proof/Machine/State.lean ====
section
/-! DEFINITION. The state of the CPC-340, the reasons a step can stop, and the state after a power-on reset. -/

namespace Sys2Proof.Machine

/-- Everything the spec lets the part hold, block by block, with the queue of the commands that are waiting. -/
structure State where
  /-- Run Controller (01). -/
  run : RunBlock
  /-- Plan Generator (02). -/
  plan : PlanBlock
  /-- Slot Allocator (03). -/
  slots : SlotBlock
  /-- Load Manager (04). -/
  loads : LoadBlock
  /-- Envelope Monitor (05). -/
  power : PowerBlock
  /-- Tracking Monitor (06). -/
  track : TrackBlock
  /-- Profile Store (07). -/
  store : StoreBlock
  /-- Event Router (08). -/
  router : RouterBlock
  /-- Target Ports and Request Handler (09). -/
  port : PortBlock
  /-- The three buses, as the controllers' reads see them (09). -/
  bus : PerPort Bus
  /-- Outcome Log and reset cause record (10). -/
  log : LogBlock
  /-- The reset in progress with its kinds, or none (R191). -/
  resetting : Option ResetCauses
  /-- The model's own: the commands that are waiting, first in, first out. -/
  pending : List Instr
deriving DecidableEq, Repr

/-- Reasons for a machine to stop with a fault. There is none: the spec gives every command of the part an effect, so
no constructor is needed. Safe: a model that never stops leaves out no behaviour. -/
inductive Fault where
deriving DecidableEq, Repr

/-- Reasons for a command to have no meaning. Only `exec`'s arm of a command that is not modelled raises
`notModelled`, with the command's mnemonic; no arm does. Safe: a refusal proves nothing about the part. -/
inductive Refusal where
  | notModelled (mnemonic : String)
deriving DecidableEq, Repr

/-- The part right after the release of a power-on reset (R22, R23, R72, R97, R118, R140, R151, R161, R183, R195),
with no command waiting. The strap levels are the board's (log 1). -/
def State.reset : State where
  run := .powerOn
  plan := .powerOn
  slots := .powerOn
  loads := .powerOn
  power := .afterReset .default
  track := .powerOn
  store := .powerOn
  router := .atRelease
  port := .afterReset Config.straps
  bus := .all ⟨.idle, []⟩
  log := .powerOn
  resetting := none
  pending := []

end Sys2Proof.Machine
end

