-- ==== Sys2Proof/Machine/Operands.lean ====
section
/-! DEFINITION. The arithmetic words of the manual (spec 00, Arithmetic) and the forms of request and response fields
(spec 09, R184). -/

namespace Sys2Proof.Machine

/-! ### Arithmetic -/

/-- Rounded up, for a positive quotient. -/
def ceilDiv (a b : Nat) : Nat := (a + b - 1) / b

/-- The largest multiple of `k` that is not greater than `n`. -/
def roundDown (k n : Nat) : Nat := n / k * k

/-- The smallest multiple of `k` that is not less than `n`. -/
def roundUp (k n : Nat) : Nat := ceilDiv n k * k

/-- Rounded toward zero. -/
def truncDiv (a b : Int) : Int := a.tdiv b

/-- Set to `lo` if below `lo`, and to `hi` if above `hi`. -/
def clampInt (lo hi x : Int) : Int := if x < lo then lo else if hi < x then hi else x

/-- `clampInt` for unsigned values. -/
def clampNat (lo hi x : Nat) : Nat := if x < lo then lo else if hi < x then hi else x

/-- Adds 1 to a count that stays at `top` once it is there. -/
def bump (top n : Nat) : Nat := if n < top then n + 1 else top

/-! ### Fields of frames -/

/-- The least significant byte of a two-byte field. -/
def lowByte (w : U16) : Byte := w.extractLsb' 0 8

/-- The most significant byte of a two-byte field. -/
def highByte (w : U16) : Byte := w.extractLsb' 8 8

/-- The two-byte field whose bytes are `lo`, first on the wire, and `hi`. -/
def word16 (lo hi : Byte) : U16 := hi ++ lo

/-- A two-byte field, least significant byte first. -/
def le16 (w : U16) : List Byte := [lowByte w, highByte w]

/-- A number in one byte. -/
def byteOf (n : Nat) : Byte := BitVec.ofNat 8 n

/-- A number in a two-byte field that saturates at 65535. -/
def sat16 (n : Nat) : U16 := BitVec.ofNat 16 (min n 65535)

/-- A signed number in a two-byte field. -/
def signed16 (x : Int) : U16 := BitVec.ofInt 16 x

/-- A number in a four-byte field, least significant byte first. -/
def le32 (n : Nat) : List Byte :=
  le16 (BitVec.ofNat 16 n) ++ le16 (BitVec.ofNat 16 (n / 65536))

/-- A mark in one byte. -/
def flagByte (b : Bool) : Byte := if b then 1 else 0

/-- A temperature in a two-byte field; absent is -32768 (00, Temperatures). -/
def temp16 : Option Int → U16
  | none => 0x8000
  | some t => signed16 t

/-- A temperature as it is received: -32768 is absent, any other value is clamped to [-400, 600]
(00, Temperatures; R119). -/
def receiveTemp (w : U16) : Option Int :=
  if w = 0x8000 then none else some (clampInt (-400) 600 w.toInt)

/-- One two-byte field for each load, in load-number order (R73). -/
def le16s (x : PerLoad Nat) : List Byte := x.toList.flatMap fun n => le16 (sat16 n)

/-- A claim set in one byte: bit 0 SUPPLY, bit 1 CLIMATE, bit 2 DISPATCH (R184). -/
def portSetByte (x : PerPort Bool) : Byte :=
  byteOf (x.supply.toNat + 2 * x.climate.toNat + 4 * x.dispatch.toNat)

end Sys2Proof.Machine
end

