-- ==== Sys2Proof/Machine/Flags.lean ====
section
/-! DEFINITION. The codes and the flags bytes that responses carry (spec 01, 03, 04, 05, 06, 09, 10). -/

namespace Sys2Proof.Machine

/-- A flags byte from its bits, bit 0 first (R184). -/
def flagsByte (bits : List Bool) : Byte := byteOf (bits.foldr (fun b n => b.toNat + 2 * n) 0)

/-- 01, 1.1. -/
def RunState.code : RunState → Byte
  | .idle => 0
  | .scheduled => 1
  | .planning => 2
  | .conditioning => 3
  | .maintain => 4

/-- R2. -/
def DepartureUnit.code : DepartureUnit → Nat
  | .fine => 0
  | .coarse => 1

/-- R2. -/
def DepartureMode.code : DepartureMode → Nat
  | .oneShot => 0
  | .repeating => 1

/-- R138. -/
def Readiness.code : Readiness → Byte
  | .none => 0
  | .ready => 1
  | .onTime => 2
  | .atRisk => 3
  | .late => 4
  | .unreachable => 5

/-- 06, 6.3. -/
def TrackerState.code : TrackerState → Byte
  | .idle => 0
  | .acq1 => 1
  | .acq2 => 2
  | .onTrack => 3
  | .held => 4

/-- R88. -/
def Reason.code : Reason → Byte
  | .granted => 0
  | .noDemand => 1
  | .budget => 2
  | .inhibited => 3
  | .faulted => 4
  | .cooldown => 5
  | .floor => 6
  | .blower => 7
  | .shed => 8

/-- 09, 9.7: the part's own load state codes. -/
def LoadState.code : LoadState → Byte
  | .off => 0
  | .starting => 1
  | .running => 2
  | .cooldown => 3
  | .faulted => 4

/-- R83. -/
def FaultCause.code : FaultCause → Byte
  | .noStart => 0
  | .reported => 1
  | .dropped => 2

/-- 09, 9.7. -/
def EnvelopeState.code : EnvelopeState → Byte
  | .none => 0
  | .live => 1
  | .lost => 2

/-- R117. -/
def Source.code : Source → Byte
  | .live => 0
  | .fallback => 1

/-- R169. -/
def ResponseMode.code : ResponseMode → Byte
  | .hold => 0
  | .prepared => 1

/-- 01, 1.6. -/
def EndCause.code : EndCause → Byte
  | .departed => 1
  | .cancelled => 2
  | .trackLost => 3
  | .reset => 4

/-- The flags byte of Status Query (R180): TRACK, TRACKS, SENSOR_LOST, ENV_LOST, the port's overflow, open loop. -/
def statusFlags (t : TrackBlock) (envLost overflow : Bool) : Byte :=
  flagsByte [t.track, t.tracks, t.sensorLost, envLost, overflow, t.openLoop]

/-- The flags byte of Sensor Report (R119). -/
def sensorFlags (t : TrackBlock) : Byte := flagsByte [t.track, t.tracks, t.sensorLost]

/-- The flags byte of a slot entry (09, 9.7). -/
def SlotFlags.byte (f : SlotFlags) : Byte :=
  flagsByte [f.deficit, f.clamped, f.shortfall, f.noneGranted, f.openLoop, f.fallback]

/-- The flags byte of an outcome entry (09, 9.7). -/
def OutcomeEntry.flags (e : OutcomeEntry) : Byte := flagsByte [e.tracks, e.envLost, e.sensorLost]

/-- The reset cause record in one byte (R194). -/
def ResetCauses.byte (c : ResetCauses) : Byte := flagsByte [c.por, c.pin, c.soft]

end Sys2Proof.Machine
end

