-- ==== Sys2Proof/Machine/Frames.lean ====
section
/-! DEFINITION. The catalogue of requests, the status codes, the response frames, and the request frames that the commands
of Instr stand for (spec 09, 9.5 to 9.7). -/

namespace Sys2Proof.Machine

/-- The requests of the catalogue (09, 9.6). -/
inductive Request where
  | statusQuery | eventQuery | eventMaskSet | portModeSet | inhibitClaim | replan | slotQuery | outcomeQuery
  | profileFieldRead | resetCauseQuery | resetCauseClear | settingRead
  | envelope | floorSet | drawQuery
  | sensorReport | actuatorStatus | grantQuery | clearFault | copEntryWrite | loadLimitSet | sensorTimeoutSet
  | departureSet | cancel | selectBank | profileFieldWrite | slotLengthSet | softReset
deriving DecidableEq, Repr

/-- The code of a request (09, 9.6). -/
def Request.code : Request → Byte
  | .statusQuery => 0x01
  | .eventQuery => 0x02
  | .eventMaskSet => 0x03
  | .portModeSet => 0x04
  | .inhibitClaim => 0x05
  | .replan => 0x06
  | .slotQuery => 0x07
  | .outcomeQuery => 0x08
  | .profileFieldRead => 0x09
  | .resetCauseQuery => 0x0A
  | .resetCauseClear => 0x0B
  | .settingRead => 0x0C
  | .envelope => 0x20
  | .floorSet => 0x21
  | .drawQuery => 0x22
  | .sensorReport => 0x40
  | .actuatorStatus => 0x41
  | .grantQuery => 0x42
  | .clearFault => 0x43
  | .copEntryWrite => 0x44
  | .loadLimitSet => 0x45
  | .sensorTimeoutSet => 0x46
  | .departureSet => 0x60
  | .cancel => 0x61
  | .selectBank => 0x62
  | .profileFieldWrite => 0x63
  | .slotLengthSet => 0x64
  | .softReset => 0x65

/-- Every request of the catalogue. -/
def Request.all : List Request :=
  [.statusQuery, .eventQuery, .eventMaskSet, .portModeSet, .inhibitClaim, .replan, .slotQuery, .outcomeQuery,
   .profileFieldRead, .resetCauseQuery, .resetCauseClear, .settingRead, .envelope, .floorSet, .drawQuery,
   .sensorReport, .actuatorStatus, .grantQuery, .clearFault, .copEntryWrite, .loadLimitSet, .sensorTimeoutSet,
   .departureSet, .cancel, .selectBank, .profileFieldWrite, .slotLengthSet, .softReset]

/-- The request of a code, if the code is in the catalogue (R177, step 2). -/
def Request.ofCode (c : Byte) : Option Request := Request.all.find? fun r => r.code == c

/-- The payload length of a request (09, 9.6). -/
def Request.payload : Request → Nat
  | .statusQuery => 0
  | .eventQuery => 0
  | .eventMaskSet => 2
  | .portModeSet => 1
  | .inhibitClaim => 2
  | .replan => 0
  | .slotQuery => 1
  | .outcomeQuery => 1
  | .profileFieldRead => 2
  | .resetCauseQuery => 0
  | .resetCauseClear => 0
  | .settingRead => 1
  | .envelope => 7
  | .floorSet => 1
  | .drawQuery => 0
  | .sensorReport => 7
  | .actuatorStatus => 19
  | .grantQuery => 0
  | .clearFault => 1
  | .copEntryWrite => 3
  | .loadLimitSet => 3
  | .sensorTimeoutSet => 1
  | .departureSet => 6
  | .cancel => 0
  | .selectBank => 1
  | .profileFieldWrite => 4
  | .slotLengthSet => 2
  | .softReset => 0

/-- The port whose role a request belongs to; none for a request open to every port (R178). -/
def Request.role (r : Request) : Option Port :=
  let c := r.code.toNat
  if c < 0x20 then none
  else if c < 0x40 then some .supply
  else if c < 0x60 then some .climate
  else some .dispatch

/-- The refusals of a served frame (R179). -/
inductive Status where
  | code | length | role | range | state | field
deriving DecidableEq, Repr

/-- R179. -/
def Status.byte : Status → Byte
  | .code => 0x10
  | .length => 0x11
  | .role => 0x12
  | .range => 0x13
  | .state => 0x14
  | .field => 0x15

/-- What a service answers: OK with a payload, or a refusal, which has none (R179). -/
inductive Reply where
  | ok (payload : List Byte)
  | refused (why : Status)
deriving DecidableEq, Repr

/-- The response frame of a reply: status, code answered, length, payload (R165, R179). -/
def Reply.frame (code : Byte) : Reply → List Byte
  | .ok payload => 0x00 :: code :: byteOf payload.length :: payload
  | .refused why => [why.byte, code, 0]

/-- The BUSY response for a frame's code (R166). -/
def busyResponse (code : Byte) : List Byte := [0x01, code, 0]

/-- The NOT_READY frame for a frame's code (R171). -/
def notReadyFrame (code : Byte) : List Byte := [0x02, code, 0]

/-- The first step of the checks of a frame (R177): its length byte agrees with its byte count. -/
def Frame.wellFormed (f : Frame) : Bool :=
  match f.bytes with
  | _ :: n :: payload => !f.tooLong && payload.length == n.toNat
  | _ => false

/-- A scratch frame after more bytes of its write (R164): 32 bytes are stored, and a further byte sets the too-long
mark. -/
def Frame.extend (f : Frame) (bytes : List Byte) : Frame :=
  ⟨(f.bytes ++ bytes).take 32, f.tooLong || decide (32 < (f.bytes ++ bytes).length)⟩

/-- The frame that the bytes of a finished write leave in the scratch frame (R164). -/
def frameOf (bytes : List Byte) : Frame := Frame.extend ⟨[], false⟩ bytes

/-- The well-formed frame of a request with a payload (R164). -/
def Request.frame (r : Request) (payload : List Byte) : Frame :=
  ⟨r.code :: byteOf payload.length :: payload, false⟩

/-- The port that sends a request command, and the frame it writes (09, 9.7); none for a command that is no
request. -/
def requestFrame : Instr → Option (Port × Frame)
  | .statusQuery p => some (p, Request.statusQuery.frame [])
  | .eventQuery p => some (p, Request.eventQuery.frame [])
  | .eventMaskSet p mask => some (p, Request.eventMaskSet.frame (le16 mask))
  | .portModeSet p mode => some (p, Request.portModeSet.frame [mode])
  | .inhibitClaimSet p load => some (p, Request.inhibitClaim.frame [load, 1])
  | .inhibitClaimClear p load => some (p, Request.inhibitClaim.frame [load, 2])
  | .inhibitClaimTest p load => some (p, Request.inhibitClaim.frame [load, 0])
  | .replan p => some (p, Request.replan.frame [])
  | .slotQuery p index => some (p, Request.slotQuery.frame [index])
  | .outcomeQuery p index => some (p, Request.outcomeQuery.frame [index])
  | .profileFieldRead p bank field => some (p, Request.profileFieldRead.frame [bank, field])
  | .resetCauseQuery p => some (p, Request.resetCauseQuery.frame [])
  | .resetCauseClear p => some (p, Request.resetCauseClear.frame [])
  | .settingRead p id => some (p, Request.settingRead.frame [id])
  | .unknownRequest p bytes => some (p, frameOf bytes)
  | .envelope p link grid pack hold =>
    some (p, Request.envelope.frame ([link] ++ le16 grid ++ le16 pack ++ le16 hold))
  | .floorSet p floor => some (p, Request.floorSet.frame [floor])
  | .drawQuery p => some (p, Request.drawQuery.frame [])
  | .sensorReport p tCab tOut tPack door =>
    some (p, Request.sensorReport.frame (le16 tCab ++ le16 tOut ++ le16 tPack ++ [door]))
  | .actuatorStatus p sequence states draws =>
    some (p, Request.actuatorStatus.frame ([sequence] ++ states.toList ++ draws.toList.flatMap le16))
  | .grantQuery p => some (p, Request.grantQuery.frame [])
  | .clearFault p load => some (p, Request.clearFault.frame [load])
  | .copEntryWrite p index value => some (p, Request.copEntryWrite.frame ([index] ++ le16 value))
  | .loadLimitSet p load limit => some (p, Request.loadLimitSet.frame ([load] ++ le16 limit))
  | .sensorTimeoutSet p timeout => some (p, Request.sensorTimeoutSet.frame [timeout])
  | .departureSet p value unit mode period =>
    some (p, Request.departureSet.frame (le16 value ++ [unit, mode] ++ le16 period))
  | .cancel p => some (p, Request.cancel.frame [])
  | .selectBank p bank => some (p, Request.selectBank.frame [bank])
  | .profileFieldWrite p bank field value =>
    some (p, Request.profileFieldWrite.frame ([bank, field] ++ le16 value))
  | .slotLengthSet p seconds => some (p, Request.slotLengthSet.frame (le16 seconds))
  | .softReset p => some (p, Request.softReset.frame [])
  | .finishedWrite _ _ _ => none
  | .responseRead _ _ _ _ => none
  | .stretchLimit _ => none
  | .deferredInstallation _ _ => none
  | .timeBaseTick => none
  | .departureExpiry => none
  | .scheduleCheck => none
  | .planCompletion => none
  | .phaseChange => none
  | .slotStart => none
  | .holdTimerExpiry => none
  | .startTimeout => none
  | .cooldownEnd => none
  | .minimumOnEnd => none
  | .windscreenEnergySpent => none
  | .sensorTimerExpiry => none
  | .powerOnReset => none
  | .pinReset => none
  | .resetRelease _ _ => none

/-- Some request command other than UNKNOWN_REQUEST stands for the frame: a well-formed frame with a code of the
catalogue and that code's payload length, and for Inhibit Claim one of its three actions (R85, R177). -/
def Frame.namesRequest (f : Frame) : Bool :=
  match f.bytes with
  | c :: n :: payload =>
    f.wellFormed &&
      match Request.ofCode c with
      | none => false
      | some .inhibitClaim => n == 2 && (payload.getD 1 3).toNat < 3
      | some r => n.toNat == r.payload
  | _ => false

end Sys2Proof.Machine
end

