-- ==== Sys2Proof/Machine/Profiles.lean ====
section
/-! DEFINITION. The profile fields with their ids and ranges (spec 07), the banks, and the profile in force (spec 05,
R99). -/

namespace Sys2Proof.Machine

/-- The fields in the order of their ids 0 to 24 (07, 7.1). -/
def Field.all : List Field :=
  [.tSet, .blowerLevel, .seatLevel, .seatLead, .scrEnergy, .scrWindow, .tPackTarget, .cPack, .cCab, .ua,
   .cabShare, .margin, .settle, .wRes, .fallbackW, .allowPack, .levelHpc, .levelAir, .levelScr, .levelSeat,
   .levelBat, .wTrack, .abortOnLoss, .lossLimit, .tAssume]

/-- The field of a field id; none for 25 and above (R143). -/
def Field.ofId (n : Nat) : Option Field := Field.all[n]?

/-- The lower and the upper limit of each field (07, 7.1). -/
def Field.range : Field → Int × Int
  | .tSet => (100, 280)
  | .blowerLevel => (1, 4)
  | .seatLevel => (0, 2)
  | .seatLead => (0, 1800)
  | .scrEnergy => (0, 2000)
  | .scrWindow => (0, 3600)
  | .tPackTarget => (-200, 400)
  | .cPack => (0, 2000)
  | .cCab => (20, 400)
  | .ua => (10, 400)
  | .cabShare => (10, 100)
  | .margin => (0, 100)
  | .settle => (0, 600)
  | .wRes => (0, 2000)
  | .fallbackW => (0, 7400)
  | .allowPack => (0, 1)
  | .levelHpc => (0, 3)
  | .levelAir => (0, 3)
  | .levelScr => (0, 3)
  | .levelSeat => (0, 3)
  | .levelBat => (0, 3)
  | .wTrack => (5, 50)
  | .abortOnLoss => (0, 1)
  | .lossLimit => (1, 15)
  | .tAssume => (-400, 600)

/-- The three fields that are read and written as signed numbers (R143). -/
def Field.signed : Field → Bool
  | .tSet => true
  | .tPackTarget => true
  | .tAssume => true
  | _ => false

/-- The fields that enter the budget (R99). -/
def Field.inBudget : Field → Bool
  | .wRes => true
  | .fallbackW => true
  | .allowPack => true
  | _ => false

/-- The value a profile holds in a field. -/
def Profile.get (p : Profile) : Field → Int
  | .tSet => p.tSet
  | .blowerLevel => p.blowerLevel
  | .seatLevel => p.seatLevel
  | .seatLead => p.seatLead
  | .scrEnergy => p.scrEnergy
  | .scrWindow => p.scrWindow
  | .tPackTarget => p.tPackTarget
  | .cPack => p.cPack
  | .cCab => p.cCab
  | .ua => p.ua
  | .cabShare => p.cabShare
  | .margin => p.margin
  | .settle => p.settle
  | .wRes => p.wRes
  | .fallbackW => p.fallbackW
  | .allowPack => p.allowPack
  | .levelHpc => p.levelHpc
  | .levelAir => p.levelAir
  | .levelScr => p.levelScr
  | .levelSeat => p.levelSeat
  | .levelBat => p.levelBat
  | .wTrack => p.wTrack
  | .abortOnLoss => p.abortOnLoss
  | .lossLimit => p.lossLimit
  | .tAssume => p.tAssume

/-- A profile with a value stored in one field. The value of an unsigned field is not negative. -/
def Profile.set (p : Profile) (f : Field) (v : Int) : Profile :=
  match f with
  | .tSet => { p with tSet := v }
  | .blowerLevel => { p with blowerLevel := v.toNat }
  | .seatLevel => { p with seatLevel := v.toNat }
  | .seatLead => { p with seatLead := v.toNat }
  | .scrEnergy => { p with scrEnergy := v.toNat }
  | .scrWindow => { p with scrWindow := v.toNat }
  | .tPackTarget => { p with tPackTarget := v }
  | .cPack => { p with cPack := v.toNat }
  | .cCab => { p with cCab := v.toNat }
  | .ua => { p with ua := v.toNat }
  | .cabShare => { p with cabShare := v.toNat }
  | .margin => { p with margin := v.toNat }
  | .settle => { p with settle := v.toNat }
  | .wRes => { p with wRes := v.toNat }
  | .fallbackW => { p with fallbackW := v.toNat }
  | .allowPack => { p with allowPack := v.toNat }
  | .levelHpc => { p with levelHpc := v.toNat }
  | .levelAir => { p with levelAir := v.toNat }
  | .levelScr => { p with levelScr := v.toNat }
  | .levelSeat => { p with levelSeat := v.toNat }
  | .levelBat => { p with levelBat := v.toNat }
  | .wTrack => { p with wTrack := v.toNat }
  | .abortOnLoss => { p with abortOnLoss := v.toNat }
  | .lossLimit => { p with lossLimit := v.toNat }
  | .tAssume => { p with tAssume := v }

/-- The written value of a field as the part reads it: signed for the three temperatures, else unsigned (R143). -/
def Field.written (f : Field) (w : U16) : Int := if f.signed then w.toInt else (w.toNat : Int)

/-- The value a write stores: the written value clamped to the field's own range (R142). -/
def Field.stored (f : Field) (w : U16) : Int := clampInt f.range.1 f.range.2 (f.written w)

/-- Every field lies within its range (R141). -/
def Profile.inRange (p : Profile) : Bool :=
  Field.all.all fun f => decide (f.range.1 ≤ p.get f) && decide (p.get f ≤ f.range.2)

/-- The profile of a bank. -/
def Banks.get (b : Banks) (n : Fin 4) : Profile :=
  match n with
  | 0 => b.bank0
  | 1 => b.bank1
  | 2 => b.bank2
  | 3 => b.bank3

/-- The banks with one bank replaced. -/
def Banks.set (b : Banks) (n : Fin 4) (p : Profile) : Banks :=
  match n with
  | 0 => { b with bank0 := p }
  | 1 => { b with bank1 := p }
  | 2 => { b with bank2 := p }
  | 3 => { b with bank3 := p }

/-- The bank that a bank number of a frame names; none for 4 and above (R14, R143). -/
def bankOf (w : Byte) : Option (Fin 4) := if h : w.toNat < 4 then some ⟨w.toNat, h⟩ else none

/-- The priority level of a load (07, 7.1). The blower's is 0 in every bank. -/
def Profile.level (p : Profile) : Load → Nat
  | .blw => 0
  | .hpc => p.levelHpc
  | .air => p.levelAir
  | .scr => p.levelScr
  | .seat => p.levelSeat
  | .bat => p.levelBat

/-- The active bank's profile (R141). -/
def State.activeProfile (s : State) : Profile := s.store.banks.get s.store.active

/-- The run profile (R27); the active bank where the plan record is empty (log 16). -/
def State.runProfile (s : State) : Profile :=
  match s.plan.plan with
  | some r => r.profile
  | none => s.activeProfile

/-- The grants of a run are live (R1). -/
def State.live (s : State) : Bool :=
  match s.run.state with
  | .conditioning => true
  | .maintain => true
  | .planning => s.run.origin == some .replan
  | .idle => false
  | .scheduled => false

/-- A run is in progress (R1). -/
def State.inRun (s : State) : Bool :=
  match s.run.state with
  | .planning => true
  | .conditioning => true
  | .maintain => true
  | .idle => false
  | .scheduled => false

/-- The profile in force (R99). -/
def State.inForce (s : State) : Profile := if s.live then s.runProfile else s.activeProfile

end Sys2Proof.Machine
end

