-- ==== Sys2Proof/Machine/Ops.lean ====
section
/-! DEFINITION. The operations that several commands share: raising an event kind (spec 08), the issue of a
grant set (spec 04), the budget and the shed (spec 05), the readiness class (spec 06). -/

namespace Sys2Proof.Machine

/-! ### Events (spec 08) -/

/-- A set of kinds has a member. -/
def hasKind (w : U16) (k : EventKind) : Bool := w &&& k.bit != 0

/-- Raises a kind: it becomes pending at every port whose mask includes it (R153). -/
def raise (k : EventKind) (s : State) : State :=
  let added := fun p => s.router.pendings.get p ||| (s.router.masks.get p &&& k.bit)
  { s with router := { s.router with pendings := .ofFn added } }

/-- Raises a kind at one port alone, as PORT_OVERFLOW is (R153). -/
def raiseAt (q : Port) (k : EventKind) (s : State) : State :=
  let added := s.router.pendings.get q ||| (s.router.masks.get q &&& k.bit)
  { s with router := { s.router with pendings := s.router.pendings.set q added } }

/-- A port's attention line is asserted (pulled low) exactly when its pending set is not empty (R155). -/
def State.attention (s : State) (p : Port) : Bool := s.router.pendings.get p != 0

/-! ### Level powers, limits and availability (spec 03, 04) -/

/-- The power of a blower level (R33, R57). -/
def blowerPower (level : Nat) : Nat :=
  if level ≤ 1 then 120 else if level = 2 then 200 else if level = 3 then 300 else 400

/-- The power of a seat level (R62). -/
def seatPower (level : Nat) : Nat := if level = 0 then 0 else if level = 1 then 150 else 300

/-- The current limit of each load; a level load's is its silicon maximum (R73). -/
def LoadBlock.limit (b : LoadBlock) : Load → Nat
  | .hpc => b.hpcLimit
  | .air => b.airLimit
  | .bat => b.batLimit
  | .blw => Load.siliconMax .blw
  | .scr => Load.siliconMax .scr
  | .seat => Load.siliconMax .seat

/-- The load block with a stored limit; only a modulating load has one (R74). -/
def LoadBlock.setLimit (b : LoadBlock) (l : Load) (v : Nat) : LoadBlock :=
  match l with
  | .hpc => { b with hpcLimit := v }
  | .air => { b with airLimit := v }
  | .bat => { b with batLimit := v }
  | .blw => b
  | .scr => b
  | .seat => b

/-- A load is inhibited while its claim set is not empty (R84). -/
def LoadRecord.inhibited (r : LoadRecord) : Bool := r.claims.nonempty

/-- HPC is in its minimum-on time (R82). -/
def LoadRecord.minimumOn (r : LoadRecord) : Bool := r.state == .running && r.age < 120

/-- A load is available to the lead arithmetic: not inhibited and not FAULTED (R34). -/
def LoadRecord.available (r : LoadRecord) : Bool := !r.inhibited && r.state != .faulted

/-- The committed draw (R95). -/
def LoadBlock.committed (b : LoadBlock) : Nat :=
  if b.ackCurrent then b.grants.sum
  else (PerLoad.ofFn fun l => max (b.grants.get l) (b.ackGrants.get l)).sum

/-! ### The issue of a grant set (R90) -/

/-- One load's grant with its reason. -/
abbrev Grant := Nat × Reason

/-- What a writer hands to the Load Manager: for each load a new grant and reason, or nothing. -/
abbrev Handed := PerLoad (Option Grant)

/-- A writer that hands nothing for any load. -/
def Handed.nothing : Handed := .all none

/-- Steps 1 and 2 of R90 for one load: the handed grant, and no grant for a load that may not run. -/
def issueOne (r : LoadRecord) (current : Grant) (handed : Option Grant) : Grant :=
  let g := handed.getD current
  if g.1 = 0 then g
  else if r.inhibited then (0, .inhibited)
  else if r.state = .faulted then (0, .faulted)
  else if r.state = .cooldown then (0, .cooldown)
  else g

/-- Step 3 of R90 for HPC or AIR: no grant while the blower has none. -/
def coupleBlower (blw : Nat) (g : Grant) : Grant :=
  if blw = 0 ∧ g.1 ≠ 0 then (0, .blower) else g

/-- Steps 1 to 3 of R90: the grants and reasons of the new set. -/
def issuedSet (b : LoadBlock) (handed : Handed) : PerLoad Grant :=
  let one := fun l => issueOne (b.records.get l) (b.grants.get l, b.reasons.get l) (handed.get l)
  let blw := one .blw
  { blw := blw, hpc := coupleBlower blw.1 (one .hpc), air := coupleBlower blw.1 (one .air),
    scr := one .scr, seat := one .seat, bat := one .bat }

/-- A load enters a state, with state age 0 (R76). -/
def LoadRecord.enter (r : LoadRecord) (st : LoadState) : LoadRecord := { r with state := st, age := 0 }

/-- The state change that a new grant causes (R77). -/
def LoadRecord.afterGrant (l : Load) (r : LoadRecord) (grant : Nat) : LoadRecord :=
  if grant = 0 then
    match r.state with
    | .starting => r.enter .off
    | .running => r.enter (if l = .hpc then .cooldown else .off)
    | .off => r
    | .cooldown => r
    | .faulted => r
  else
    match r.state with
    | .off => r.enter .starting
    | .starting => r
    | .running => r
    | .cooldown => r
    | .faulted => r

/-- The load block after an issue, steps 1 to 6 of R90. `hpcBefore` is HPC's record as it stood before the event that
issues the set, to which the minimum-on test looks (R82). -/
def LoadBlock.issued (b : LoadBlock) (hpcBefore : LoadRecord) (handed : Handed) : LoadBlock :=
  let new := issuedSet b handed
  let forced := b.grants.hpc != 0 && new.hpc.1 == 0 && hpcBefore.minimumOn
  { b with
    records := .ofFn fun l => (b.records.get l).afterGrant l (new.get l).1
    sequence := b.sequence + 1
    grants := .ofFn fun l => (new.get l).1
    reasons := .ofFn fun l => (new.get l).2
    ackCurrent := false
    forcedOff := if forced then bump 255 b.forcedOff else b.forcedOff }

/-- An issue whose minimum-on test looks back to the record given, with step 7 of R90. -/
def issueFrom (hpcBefore : LoadRecord) (handed : Handed) (s : State) : State :=
  raise .grantChanged { s with loads := s.loads.issued hpcBefore handed }

/-- An issue (R90). -/
def issue (handed : Handed) (s : State) : State := issueFrom s.loads.records.hpc handed s

/-- The reason of each load in a set of six zero grants (R91). -/
def idleReason (r : LoadRecord) : Reason :=
  if r.inhibited then .inhibited
  else if r.state = .faulted then .faulted
  else if r.state = .cooldown then .cooldown
  else .noDemand

/-- The zero grant set of a run end or a suspension (R91). -/
def issueZero (s : State) : State :=
  issue (.ofFn fun l => some (0, idleReason (s.loads.records.get l))) s

/-! ### Allocation order (R64) -/

/-- `a` comes before `b`: a lower level, or the same level and a lower load number. -/
def Profile.before (p : Profile) (a b : Load) : Bool :=
  p.level a < p.level b || (p.level a == p.level b && a.number ≤ b.number)

/-- A load put in its place among loads that stand in order. -/
def Profile.place (p : Profile) (l : Load) : List Load → List Load
  | [] => [l]
  | m :: rest => if p.before l m then l :: m :: rest else m :: p.place l rest

/-- The allocation order: ascending level, and ascending load number within a level (R64). -/
def Profile.order (p : Profile) : List Load := Load.all.foldr p.place []

/-! ### Budget and shed (spec 05) -/

/-- The power of the latest envelope under a profile (R100). -/
def Envelope.power (e : Envelope) (p : Profile) : Nat :=
  (if e.connected then e.grid else 0) + (if p.allowPack = 0 then 0 else e.pack)

/-- The budget in force under a profile (R100). -/
def PowerBlock.budgetFor (b : PowerBlock) (p : Profile) : Nat :=
  match b.source, b.latest with
  | .live, some e => e.power p - p.wRes
  | .live, none => 0 - p.wRes
  | .fallback, _ => p.fallbackW - p.wRes

/-- The grant of a load that a shed lowers by the excess (R109, steps 3 and 4). -/
def shedGrant (l : Load) (grant excess : Nat) : Nat :=
  if l.modulating then
    let g := roundDown l.step (grant - excess)
    if g < l.minimum then 0 else g
  else 0

/-- The walk of R109 over the loads in the order given, with the grants and what has been handed so far. -/
def shedWalk (budget : Nat) : List Load → PerLoad Nat → Handed → Handed
  | [], _, handed => handed
  | l :: rest, grants, handed =>
    if grants.sum ≤ budget then handed
    else if grants.get l = 0 then shedWalk budget rest grants handed
    else
      let g := shedGrant l (grants.get l) (grants.sum - budget)
      shedWalk budget rest (grants.set l g) (handed.set l (some (g, .shed)))

/-- A slot entry whose shed count has risen by 1 (R44). -/
def SlotEntry.addShed (e : SlotEntry) : SlotEntry :=
  { e with actual := e.actual.map fun a => { a with sheds := a.sheds + 1 } }

/-- The shed count of the open slot, when there is one, rises by 1 (R110). -/
def countShed (s : State) : State :=
  match s.slots.openSlot, s.plan.plan with
  | some i, some r =>
    let counted := r.slots.modify i SlotEntry.addShed
    { s with plan := { s.plan with plan := some { r with slots := counted } } }
  | _, _ => s

/-- A shed (R109, R110), with the order of the profile in force. -/
def shed (p : Profile) (s : State) : State :=
  let s := issue (shedWalk s.power.budget p.order.reverse s.loads.grants .nothing) s
  let s := countShed s
  let s := { s with log := { s.log with acc := { s.log.acc with sheds := s.log.acc.sheds + 1 } } }
  raise .shed s

/-- The budget in force is computed afresh from the profile in force, and a fall below the grants sheds at once
(R101, R108). -/
def computeBudget (p : Profile) (s : State) : State :=
  let s := { s with power := { s.power with budget := s.power.budgetFor p } }
  if s.power.budget < s.loads.grants.sum then shed p s else s

/-- A timer runs: it has seconds left. The tick that brings it to 0 is its expiry, at which it stops (R103, R122). -/
def timerRuns : Option Nat → Bool
  | none => false
  | some n => n != 0

/-- The re-examination of the envelope (R106), with the profile in force at that step. -/
def reexamine (p : Profile) (s : State) : State :=
  let s :=
    if s.power.state = .lost ∧ timerRuns s.power.holdTimer then
      { s with power := { s.power with state := .live, envLost := false, source := .live } }
    else s
  computeBudget p s

/-! ### Readiness (06, 6.4) -/

/-- The class and the margin take new values; READINESS_CHANGED is raised on a change of class (R139). -/
def setReadiness (c : Readiness) (margin : Int) (s : State) : State :=
  let t := { s with track := { s.track with readiness := c, margin := margin } }
  if c = s.track.readiness then t else raise .readinessChanged t

end Sys2Proof.Machine
end

