-- ==== Sys2Proof/Machine/Lead.lean ====
section
/-! DEFINITION. The arithmetic of planning (spec 02): the lead, the trajectory, the slot table; and the COP lookup
(spec 03, R55) and the readiness class (spec 06, R137, R138) that go with it. -/

namespace Sys2Proof.Machine

/-! ### The COP table (R55) -/

/-- The entry of an index; entry 7 for 7 and above. -/
def CopTable.get (c : CopTable) : Nat → Nat
  | 0 => c.c0
  | 1 => c.c1
  | 2 => c.c2
  | 3 => c.c3
  | 4 => c.c4
  | 5 => c.c5
  | 6 => c.c6
  | _ => c.c7

/-- The table with one entry stored. -/
def CopTable.set (c : CopTable) (i v : Nat) : CopTable :=
  match i with
  | 0 => { c with c0 := v }
  | 1 => { c with c1 := v }
  | 2 => { c with c2 := v }
  | 3 => { c with c3 := v }
  | 4 => { c with c4 := v }
  | 5 => { c with c5 := v }
  | 6 => { c with c6 := v }
  | 7 => { c with c7 := v }
  | _ => c

/-- The index of the highest breakpoint at or below an outdoor temperature (R55). -/
def copIndex (tOut : Int) : Nat :=
  if tOut < -300 then 0
  else if tOut < -200 then 1
  else if tOut < -100 then 2
  else if tOut < 0 then 3
  else if tOut < 100 then 4
  else if tOut < 200 then 5
  else if tOut < 300 then 6
  else 7

/-- The COP at an outdoor temperature (R55). -/
def CopTable.at (c : CopTable) (tOut : Int) : Nat := c.get (copIndex tOut)

/-! ### The lead (02, 2.3) -/

/-- The inputs of the lead arithmetic (R32), the slot length apart. -/
structure LeadInputs where
  profile : Profile
  tCab : Int
  tOut : Int
  budget : Nat
  hpcLimit : Nat
  airLimit : Nat
  hpcAvailable : Bool
  airAvailable : Bool
  cop : Nat

/-- Step 4: the compressor's share of the power left for heat (R34). -/
def leadHpc (i : LeadInputs) (heat : Nat) : Nat :=
  let hp := roundDown 100 (min heat i.hpcLimit)
  if hp < 800 ∨ !i.hpcAvailable then 0 else hp

/-- Step 5: the air heater's share of what the compressor leaves (R34). -/
def leadAir (i : LeadInputs) (heat hp : Nat) : Nat :=
  let air := roundDown 250 (min (heat - hp) i.airLimit)
  if air < 250 ∨ !i.airAvailable then 0 else air

/-- Steps 2 to 6: P_heat (R33, R34). -/
def leadHeat (i : LeadInputs) : Nat :=
  let cab := i.budget * i.profile.cabShare / 100
  let blw := blowerPower i.profile.blowerLevel
  if cab ≤ blw then 0
  else
    let heat := cab - blw
    let hp := leadHpc i heat
    hp * i.cop / 100 + leadAir i heat hp

/-- The power lost to the outside at a cabin temperature: truncate(UA × difference / 10), and 0 when that is negative
(R35, R43, R52). -/
def lossPower (p : Profile) (tIn tOut : Int) : Nat := p.ua * (tIn - tOut).toNat / 10

/-- Steps 1 to 10: t_heat in seconds, or none for an unreachable cabin (R33 to R36). -/
def heatingTime (i : LeadInputs) : Option Nat :=
  let dT := i.profile.tSet - i.tCab
  if dT ≤ 0 then some 0
  else
    let mean := i.tCab + truncDiv dT 2
    let heat := leadHeat i
    let loss := lossPower i.profile mean i.tOut
    if heat ≤ loss then none
    else some (ceilDiv (i.profile.cCab * dT.toNat * 100) (heat - loss))

/-- The horizon of 48 slots (R24). -/
def horizon (slotLength : Nat) : Nat := 48 * slotLength

/-- Step 11, and H for an unreachable cabin (R35, R36). -/
def leadOf (p : Profile) (slotLength : Nat) : Option Nat → Nat
  | none => horizon slotLength
  | some t =>
    clampNat slotLength (horizon slotLength)
      (roundUp slotLength (ceilDiv (t * (100 + p.margin)) 100 + p.settle))

/-! ### The trajectory (02, 2.4) -/

/-- T_traj(t) (R38). Above R_plan it is T0 (R39, log 13). -/
def trajectory (tSet t0 : Int) (settle rPlan t : Nat) : Int :=
  if rPlan < t then t0
  else if rPlan ≤ settle then tSet
  else if t < settle then tSet
  else tSet - truncDiv ((tSet - t0) * ((t - settle : Nat) : Int)) ((rPlan - settle : Nat) : Int)

/-- The trajectory of a plan record. -/
def PlanRecord.traj (r : PlanRecord) (t : Nat) : Int :=
  trajectory r.profile.tSet r.t0 r.profile.settle r.rPlan t

/-! ### The slot table (02, 2.5) -/

/-- A warming term: ceiling(C_cab × rise × 100 / length), and 0 without a rise (R43, R52). -/
def warmingPower (p : Profile) (tFrom tTo : Int) (length : Nat) : Nat :=
  if tTo ≤ tFrom then 0 else ceilDiv (p.cCab * (tTo - tFrom).toNat * 100) length

/-- The entry count: ceiling(R_plan / L) (R40). -/
def slotCount (rPlan slotLength : Nat) : Nat := ceilDiv rPlan slotLength

/-- Entry i of the table, its actual part absent (R40, R42, R43). -/
def slotEntry (p : Profile) (t0 tOut : Int) (rPlan slotLength i : Nat) : SlotEntry :=
  let n := slotCount rPlan slotLength
  let start := if i = 0 then rPlan else (n - i) * slotLength
  let stop := (n - i - 1) * slotLength
  let tStart := trajectory p.tSet t0 p.settle rPlan start
  let tStop := trajectory p.tSet t0 p.settle rPlan stop
  { start := start
    stop := stop
    trajEnd := tStop
    forecast := min 20000 (warmingPower p tStart tStop (start - stop) + lossPower p tStart tOut)
    actual := none }

/-- The whole table (R40). -/
def slotTable (p : Profile) (t0 tOut : Int) (rPlan slotLength : Nat) : List SlotEntry :=
  (List.range (slotCount rPlan slotLength)).map (slotEntry p t0 tOut rPlan slotLength)

/-- The index of the slot that is current at a remaining time (R41). -/
def PlanRecord.currentSlot (r : PlanRecord) (t : Nat) : Option Nat :=
  r.slots.findIdx? fun e => decide (t ≤ e.start) && decide (e.stop < t)

/-! ### The plan of a capture (R26, R30 step 1) -/

/-- The captured T_cab, T_assume in its place when it is absent (R26). -/
def Capture.cabin (c : Capture) : Int := c.tCab.getD c.profile.tAssume

/-- The captured T_out, T_assume in its place when it is absent (R26). -/
def Capture.outdoor (c : Capture) : Int := c.tOut.getD c.profile.tAssume

/-- The plan that a generation builds from its capture. -/
def Capture.build (c : Capture) : PlanRecord where
  profile := c.profile
  bank := c.bank
  rPlan := c.rPlan
  t0 := c.cabin
  tOut := c.outdoor
  packPlanned := c.tPack.isSome && c.profile.cPack != 0
  slotLength := c.slotLength
  slots := slotTable c.profile c.cabin c.outdoor c.rPlan c.slotLength

/-- The lead arithmetic's inputs from a capture (R32). -/
def Capture.leadInputs (c : Capture) : LeadInputs where
  profile := c.profile
  tCab := c.cabin
  tOut := c.outdoor
  budget := c.budget
  hpcLimit := c.hpcLimit
  airLimit := c.airLimit
  hpcAvailable := c.hpcAvailable
  airAvailable := c.airAvailable
  cop := c.cop

/-- The lead arithmetic's inputs as they stand, under a profile: the inputs of a schedule check with the active bank
(R32) and of the forecast at a slot start with the run profile (R136). -/
def State.leadInputs (s : State) (p : Profile) : LeadInputs where
  profile := p
  tCab := s.track.tCab.getD p.tAssume
  tOut := s.track.tOut.getD p.tAssume
  budget := s.power.budget
  hpcLimit := s.loads.hpcLimit
  airLimit := s.loads.airLimit
  hpcAvailable := s.loads.records.hpc.available
  airAvailable := s.loads.records.air.available
  cop := s.slots.cop.at (s.track.tOut.getD p.tAssume)

/-! ### Readiness (06, 6.4) -/

/-- The readiness margin (R137). -/
def readinessMargin (remaining settle : Nat) : Option Nat → Int
  | none => -32767
  | some t => clampInt (-32767) 32767 ((remaining : Int) - settle - t)

/-- The readiness class (R138), with the lead arithmetic's t_heat or its finding that the cabin is unreachable. -/
def readinessClass (p : Profile) (tCab : Int) (remaining : Nat) (heating : Option Nat) : Readiness :=
  if (tCab - p.tSet).natAbs ≤ p.wTrack then .ready
  else
    match heating with
    | none => .unreachable
    | some t =>
      if p.settle + t ≤ remaining then .onTime
      else if t ≤ remaining then .atRisk
      else .late

/-- The readiness forecast (R136), with the remaining time as it stands. -/
def forecast (p : Profile) (tCab : Int) (heating : Option Nat) (s : State) : State :=
  setReadiness (readinessClass p tCab s.run.remaining heating)
    (readinessMargin s.run.remaining p.settle heating) s

end Sys2Proof.Machine
end

