-- ==== Sys2Proof/Machine/Allocation.lean ====
section
/-! DEFINITION. Slot allocation (spec 03): the demands of the six loads, the grants in allocation order with their
reasons, the result flags, and the opening and closing of a slot. -/

namespace Sys2Proof.Machine

/-! ### Inputs and the cabin heat need (03, 3.2) -/

/-- What one allocation reads (R51). -/
structure AllocInputs where
  profile : Profile
  entry : SlotEntry
  packPlanned : Bool
  tCab : Option Int
  tOut : Int
  tPack : Option Int
  openLoop : Bool
  budget : Nat
  source : Source
  floor : Nat
  loads : LoadBlock
  cop : CopTable
  screenEnergy : Nat
  remaining : Nat

/-- The inputs as they stand when an allocation of an entry is made; an absent T_out is T_assume (R51). -/
def State.allocInputs (s : State) (r : PlanRecord) (e : SlotEntry) : AllocInputs where
  profile := r.profile
  entry := e
  packPlanned := r.packPlanned
  tCab := s.track.tCab
  tOut := s.track.tOut.getD r.profile.tAssume
  tPack := s.track.tPack
  openLoop := s.track.openLoop
  budget := s.power.budget
  source := s.power.source
  floor := s.power.floor
  loads := s.loads
  cop := s.slots.cop
  screenEnergy := s.slots.screenEnergy
  remaining := s.run.remaining

/-- What the heat need of a slot is: the watts, and whether the slot runs open loop, is a ventilation slot, or was
clamped (R52 to R54). -/
structure HeatNeed where
  watts : Nat
  openLoop : Bool
  ventilation : Bool
  clamped : Bool
deriving DecidableEq, Repr

/-- The cabin heat need (R52, R53, R54). -/
def heatNeed (i : AllocInputs) : HeatNeed :=
  match i.openLoop, i.tCab with
  | true, _ => ⟨i.entry.forecast, true, false, false⟩
  | false, none => ⟨i.entry.forecast, true, false, false⟩
  | false, some t =>
    if i.profile.tSet ≤ t then ⟨0, false, true, false⟩
    else
      let need := warmingPower i.profile t i.entry.trajEnd (i.entry.start - i.entry.stop)
        + lossPower i.profile t i.tOut
      if 20000 < need then ⟨20000, false, false, true⟩ else ⟨need, false, false, false⟩

/-! ### Demands (03, 3.4) -/

/-- HPC is unavailable to an allocation (R58, step 1). -/
def hpcUnavailable (i : AllocInputs) : Bool :=
  let r := i.loads.records.hpc
  r.inhibited || r.state == .faulted || r.state == .cooldown || decide (i.floor < i.profile.level .hpc)

/-- The blower's demand (R57). -/
def demandBlw (i : AllocInputs) (h : HeatNeed) : Nat :=
  if 0 < h.watts ∨ h.ventilation ∨ i.loads.records.hpc.minimumOn then blowerPower i.profile.blowerLevel else 0

/-- The compressor's demand (R58). -/
def demandHpc (i : AllocInputs) (h : HeatNeed) : Nat :=
  if hpcUnavailable i then 0
  else if h.watts = 0 ∧ !i.loads.records.hpc.minimumOn then 0
  else min (roundUp 100 (max 800 (ceilDiv (h.watts * 100) (i.cop.at i.tOut)))) i.loads.hpcLimit

/-- The air heater's demand (R59). -/
def demandAir (i : AllocInputs) (h : HeatNeed) : Nat :=
  let left := h.watts - demandHpc i h * i.cop.at i.tOut / 100
  min (roundUp 250 left) i.loads.airLimit

/-- The windscreen heater's demand (R60). -/
def demandScr (i : AllocInputs) : Nat :=
  if 0 < i.screenEnergy ∧ i.remaining ≤ i.profile.scrWindow then 1200 else 0

/-- The seat heater's demand (R62). -/
def demandSeat (i : AllocInputs) : Nat :=
  if i.remaining ≤ i.profile.seatLead then seatPower i.profile.seatLevel else 0

/-- E_bat, the energy in kJ that the pack still needs (R63, step 2). -/
def packEnergy (i : AllocInputs) : Nat :=
  match i.tPack with
  | none => 0
  | some t => i.profile.cPack * (i.profile.tPackTarget - t).toNat / 10

/-- The pack heater's demand (R63). -/
def demandBat (i : AllocInputs) : Nat :=
  if !i.packPlanned then 0
  else if packEnergy i = 0 then 0
  else if i.profile.settle < i.remaining then
    min (roundUp 250 (ceilDiv (packEnergy i * 1000) (i.remaining - i.profile.settle))) i.loads.batLimit
  else i.loads.batLimit

/-- The demands of the six loads (R57 to R63). -/
def demands (i : AllocInputs) : PerLoad Nat :=
  let h := heatNeed i
  { blw := demandBlw i h, hpc := demandHpc i h, air := demandAir i h,
    scr := demandScr i, seat := demandSeat i, bat := demandBat i }

/-! ### Grants (03, 3.5) -/

/-- Why a load is skipped whatever its demand, if it is (R65). -/
def skipReason (i : AllocInputs) (l : Load) : Option Reason :=
  let r := i.loads.records.get l
  if r.inhibited then some .inhibited
  else if r.state = .faulted then some .faulted
  else if r.state = .cooldown then some .cooldown
  else if i.floor < i.profile.level l then some .floor
  else none

/-- The grant from a demand and the budget left (R66). -/
def offer (l : Load) (demand left : Nat) : Nat :=
  if l.modulating then
    let g := roundDown l.step (min demand left)
    if g < l.minimum then 0 else g
  else if demand ≤ left then demand else 0

/-- The grant and the reason of one load, with the blower's grant and the budget left (R65 to R68). -/
def grantOne (i : AllocInputs) (l : Load) (demand blw left : Nat) : Grant :=
  match skipReason i l with
  | some r => (0, r)
  | none =>
    if demand = 0 then (0, .noDemand)
    else if l.needsBlower ∧ blw = 0 then (0, .blower)
    else
      let g := offer l demand left
      (g, if g < demand then .budget else .granted)

/-- The walk over the loads in allocation order (R64, R66), with the budget left and the grants made so far. -/
def allocWalk (i : AllocInputs) (d : PerLoad Nat) : List Load → Nat → PerLoad Grant → PerLoad Grant
  | [], _, done => done
  | l :: rest, left, done =>
    let g := grantOne i l (d.get l) done.blw.1 left
    allocWalk i d rest (left - g.1) (done.set l g)

/-- The grants and reasons of an allocation. -/
def allocate (i : AllocInputs) : PerLoad Grant :=
  allocWalk i (demands i) i.profile.order i.budget (.all (0, .noDemand))

/-- The result flags (R69). -/
def resultFlags (i : AllocInputs) : SlotFlags :=
  let d := demands i
  let g := allocate i
  let h := heatNeed i
  { deficit := Load.all.any fun l => decide ((g.get l).1 < d.get l)
    shortfall := Load.all.any fun l => decide (0 < d.get l) && decide ((g.get l).1 * 2 < d.get l)
    noneGranted := Load.all.all fun l => (g.get l).1 == 0
    clamped := h.clamped
    openLoop := h.openLoop
    fallback := i.source == .fallback }

/-- The actual part that an allocation writes (R70). -/
def actualOf (i : AllocInputs) : ActualPart where
  grants := .ofFn fun l => ((allocate i).get l).1
  flags := resultFlags i
  sheds := 0
  cabEnd := none

/-! ### Opening and closing a slot -/

/-- The allocation of the slot of an index: the actual part is written, the slot becomes the open slot, and the grants
and reasons are issued (R48, R70). Nothing happens where the plan has no such entry. -/
def allocateSlot (n : Nat) (s : State) : State :=
  match s.plan.plan with
  | none => s
  | some r =>
    match r.slots[n]? with
    | none => s
    | some e =>
      let i := s.allocInputs r e
      let g := allocate i
      let slots := r.slots.set n { e with actual := some (actualOf i) }
      let s := { s with
        plan := { s.plan with plan := some { r with slots := slots } }
        slots := { s.slots with openSlot := some n, reportSeen := false } }
      issue (.ofFn fun l => some (g.get l)) s

/-- A slot entry closed with a cabin temperature at its end (R44). -/
def SlotEntry.close (e : SlotEntry) (t : Option Int) : SlotEntry :=
  { e with actual := e.actual.map fun a => { a with cabEnd := t } }

/-- The open slot is closed and SLOT_DONE raised; nothing happens when there is none (R49). -/
def closeSlot (s : State) : State :=
  match s.slots.openSlot with
  | none => s
  | some n =>
    let t := if s.slots.reportSeen then s.track.tCab else none
    let close := fun r : PlanRecord => { r with slots := r.slots.modify n (·.close t) }
    let s := { s with
      plan := { s.plan with plan := s.plan.plan.map close }
      slots := { s.slots with openSlot := none } }
    raise .slotDone s

end Sys2Proof.Machine
end

