-- ==== Sys2Proof/Machine/Runs.lean ====
section
/-! DEFINITION. What a run is made of (spec 01, 02, 06, 10): the tracker's restart and rest, schedule checks, the start
and the completion of a plan generation, replans and suspensions, and run ends. -/

namespace Sys2Proof.Machine

/-! ### The frames the Run Controller holds (R18) -/

/-- The codes held while the state is PLANNING (09, 9.6): Replan, Departure Set, Cancel, Select Bank. -/
def heldCode (c : Byte) : Bool := c == 0x06 || c == 0x60 || c == 0x61 || c == 0x62

/-- The code of a frame: its first byte. A stored frame has at least one byte (R164). -/
def Frame.code (f : Frame) : Byte := f.bytes.headD 0

/-- The port holds a PENDING frame whose code is held (R18). -/
def TargetPort.holdable (t : TargetPort) : Bool :=
  match t.rx with
  | .pending f => heldCode f.code
  | .empty => false
  | .inService _ _ => false

/-- The ports whose pending frames the Run Controller holds from the start of a generation (R18). -/
def holdPending (s : State) : State :=
  { s with run := { s.run with held := .ofFn fun p => (s.port.ports.get p).holdable } }

/-- The held-request set is released (R10, R11). -/
def releaseHeld (s : State) : State := { s with run := { s.run with held := .all false } }

/-! ### The tracker's rest and restart (06, 6.3) -/

/-- The tracker goes to IDLE (R127). -/
def trackerIdle (s : State) : State :=
  { s with track := { s.track with
      tracker := .idle, holdDoor := false, holdSensor := false, acquisition := 0, track := false } }

/-- Sensor loss is declared (R124). -/
def declareSensorLoss (s : State) : State :=
  raise .sensorLost { s with track := { s.track with
      sensorLost := true, openLoop := true, track := false, tracker := .held, holdSensor := true } }

/-- Step 3 of a plan completion: tracking restarts, and the sensor timer is examined (R126, R127). -/
def restartTracking (heating : Heating) (s : State) : State :=
  let door := s.track.doorOpen
  let s := { s with track := { s.track with
      sensorLost := false, openLoop := false, track := false, tracks := false, lossCount := 0,
      tracker := if door then .held else .acq1, holdDoor := door, holdSensor := false, acquisition := 0,
      heating := heating } }
  if timerRuns s.track.sensorTimer then s else declareSensorLoss s

/-! ### Plan generation (R9, R25) -/

/-- The capture that a generation takes at its start (R25). -/
def State.takeCapture (s : State) : Capture where
  profile := s.activeProfile
  bank := s.store.active
  tCab := s.track.tCab
  tOut := s.track.tOut
  tPack := s.track.tPack
  budget := s.power.budget
  rPlan := s.run.remaining
  slotLength := s.plan.slotLength
  hpcLimit := s.loads.hpcLimit
  airLimit := s.loads.airLimit
  hpcAvailable := s.loads.records.hpc.available
  airAvailable := s.loads.records.air.available
  cop := s.slots.cop.at (s.track.tOut.getD s.activeProfile.tAssume)

/-- A plan generation starts (R9): the origin is recorded, the inputs are captured, the state becomes PLANNING, and
the pending run requests are held. With origin START a tick that is half taken fell before the run, and adds nothing to
it (R187). -/
def startGeneration (o : Origin) (s : State) : State :=
  holdPending { s with
    plan := { s.plan with capture := some s.takeCapture }
    log := match o with
      | .start => { s.log with countDue := s.log.countDue.atStart }
      | .replan => s.log
    run := { s.run with state := .planning, origin := some o, checkDue := false } }

/-- A schedule check (R7, R8), which acts in SCHEDULED alone: the envelope is re-examined (R106), the lead is computed,
the forecast is made (R136), and a generation starts when the remaining time is at or below the lead. -/
def scheduleCheck (s : State) : State :=
  match s.run.state with
  | .scheduled =>
    let p := s.activeProfile
    let s := reexamine p s
    let i := s.leadInputs p
    let t := heatingTime i
    let s := forecast p i.tCab t s
    let s := { s with run := { s.run with checkDue := false } }
    if s.run.remaining ≤ leadOf p s.plan.slotLength t then startGeneration .start s else s
  | .idle => s
  | .planning => s
  | .conditioning => s
  | .maintain => s

/-- A suspension (R17): the run goes back to SCHEDULED with its number, its accumulators and its slot table. -/
def suspend (s : State) : State :=
  let s := closeSlot s
  let s := issueZero s
  let s := trackerIdle s
  let s := { s with run := { s.run with state := .scheduled } }
  scheduleCheck (computeBudget s.activeProfile s)

/-- A replan that is due in CONDITIONING or MAINTAIN (R17): a suspension beyond the horizon of the setting, else a
generation of origin REPLAN. -/
def replan (s : State) : State :=
  if horizon s.plan.slotLength < s.run.remaining then suspend s else startGeneration .replan s

/-! ### Run ends (R19, R20, R188) -/

/-- The bank number and the T_set of the entry of a run that ends: the capture's when a generation of origin START is
in flight, else the run profile's (R188; log 16 where there is no plan). -/
def State.entryProfile (s : State) : Fin 4 × Int :=
  match s.run.origin, s.plan.capture, s.plan.plan with
  | some .start, some c, _ => (c.bank, c.profile.tSet)
  | _, _, some r => (r.bank, r.profile.tSet)
  | _, _, none => (s.store.active, s.activeProfile.tSet)

/-- The outcome entry of the run as it stands (R185, R188). -/
def State.takeEntry (s : State) (cause : EndCause) : OutcomeEntry where
  run := s.run.nextRun
  cause := cause
  bank := s.entryProfile.1
  tCab := s.track.tCab
  tSet := s.entryProfile.2
  readiness := s.track.readiness
  tracks := s.log.acc.planCompleted && s.track.tracks
  envLost := s.power.envLost
  sensorLost := s.log.acc.planCompleted && s.track.sensorLost
  lossCount := if s.log.acc.planCompleted then s.track.lossCount else 0
  sheds := min s.log.acc.sheds 255
  duration := s.log.acc.duration
  energy := .ofFn fun l => min ((s.log.acc.energy.get l) / 1000) 65535

/-- The next run number after one (R21). -/
def nextRunAfter (n : Nat) : Nat := if n < 65535 then n + 1 else 1

/-- An entry is placed at the head of the list, at most 8 are kept, and the next run number advances (R189, R21). -/
def appendEntry (e : OutcomeEntry) (s : State) : State :=
  { s with
    log := { s.log with entries := (e :: s.log.entries).take 8 }
    run := { s.run with nextRun := nextRunAfter s.run.nextRun } }

/-- The run accumulators are set to zero (R186). -/
def clearAccumulators (s : State) : State := { s with log := { s.log with acc := .zero } }

/-- A run end with cause DEPARTED, CANCELLED or TRACK_LOST: the open slot is closed, the five steps of R19 are taken in
their order, a generation in flight is abandoned with the held frames released (R11, R29), and the budget is computed
from the active bank (R101). R20's next state is left to the caller. -/
def endRun (cause : EndCause) (s : State) : State :=
  let s := closeSlot s
  let s := clearAccumulators (appendEntry (s.takeEntry cause) s)
  let s := issueZero s
  let s := trackerIdle s
  let s := raise .runEnded s
  let s := { s with
    plan := { s.plan with capture := none }
    run := { s.run with origin := none } }
  computeBudget s.activeProfile (releaseHeld s)

/-- The counter stops and the state becomes IDLE, where the readiness class is NONE (R4, R20, R139). -/
def enterIdle (s : State) : State :=
  setReadiness .none 0
    { s with run := { s.run with state := .idle, counting := false, remaining := 0, checkDue := false } }

/-- A REPEAT reload (R6): the counter reloads, the state becomes SCHEDULED, and a schedule check follows. -/
def reload (s : State) : State :=
  scheduleCheck { s with run := { s.run with
      state := .scheduled, counting := true, remaining := s.run.period * 60, checkDue := false } }

/-- The Tracking Monitor asks for the run to end on track loss (R134, R20). -/
def abortRun (s : State) : State := if s.inRun then enterIdle (endRun .trackLost s) else s

/-- The departure has expired: the counter is running and stands at 0 (R5). -/
def State.expired (s : State) : Bool := s.run.counting && s.run.remaining == 0

/-- What an expiry does (R5, R6, R20). In SCHEDULED, where R5 says it is not met, the mode alone decides (log 15). -/
def expire (s : State) : State :=
  let s := if s.inRun then endRun .departed s else s
  match s.run.mode with
  | .oneShot => enterIdle s
  | .repeating => reload s

/-! ### Completion of a plan generation (R30) -/

/-- Step 1: the plan record is replaced whole, the old table's open slot goes with it, and the plan-completed mark is
set (R30, R48, R186). -/
def installPlan (r : PlanRecord) (s : State) : State :=
  { s with
    plan := { s.plan with plan := some r, capture := none }
    slots := { s.slots with openSlot := none }
    log := { s.log with acc := { s.log.acc with planCompleted := true } } }

/-- Step 2: the remaining windscreen energy (R61). -/
def loadScreenEnergy (p : Profile) (s : State) : State :=
  { s with slots := { s.slots with screenEnergy := p.scrEnergy * 1000 } }

/-- Step 5: the run state at the completion (R10). -/
def enterRun (p : Profile) (s : State) : State :=
  { s with run := { s.run with
      state := if p.settle < s.run.remaining then .conditioning else .maintain, origin := none } }

/-- Step 6: the slot that contains the remaining time is allocated (R31). -/
def allocateCurrent (r : PlanRecord) (s : State) : State :=
  match r.currentSlot s.run.remaining with
  | some n => allocateSlot n s
  | none => s

/-- Step 8: PLAN_DONE, and RUN_STARTED for a generation of origin START. -/
def raiseDone (origin : Option Origin) (s : State) : State :=
  let s := raise .planDone s
  if origin = some .start then raise .runStarted s else s

/-- The completion of the generation whose capture is given: the eight steps of R30, then the release of the held
frames (R10). -/
def completePlan (c : Capture) (s : State) : State :=
  let r := c.build
  let origin := s.run.origin
  let t := heatingTime c.leadInputs
  let heating := match t with
    | none => Heating.unreachable
    | some n => Heating.seconds n
  let s := installPlan r s
  let s := loadScreenEnergy r.profile s
  let s := restartTracking heating s
  let s := reexamine r.profile s
  let s := enterRun r.profile s
  let s := allocateCurrent r s
  let s := forecast r.profile c.cabin t s
  let s := raiseDone origin s
  releaseHeld s

end Sys2Proof.Machine
end

