-- ==== Sys2Proof/Machine/ClimateRequests.lean ====
section
/-! DEFINITION. The services of the CLIMATE requests (spec 03, 04, 06): Sensor Report, Actuator Status, Grant Query, Clear
Fault, COP Entry Write, Load Limit Set, Sensor Timeout Set. -/

namespace Sys2Proof.Machine

/-! ### Sensor Report (06) -/

/-- The tracker begins its acquisition afresh: ACQ1 with the count at 0 (R127, R130 to R132). -/
def TrackBlock.restart (t : TrackBlock) : TrackBlock := { t with tracker := .acq1, acquisition := 0 }

/-- Steps 1 and 2 of R120: each temperature that is present replaces its latest value, and the door state is taken. -/
def storeReport (tCab tOut tPack : Option Int) (doorOpen : Bool) (s : State) : State :=
  { s with track := { s.track with
      tCab := tCab.or s.track.tCab
      tOut := tOut.or s.track.tOut
      tPack := tPack.or s.track.tPack
      doorOpen := doorOpen } }

/-- Step 3 of R120, for a report with T_cab: the sensor timer is loaded (R122), and cabin report seen is set while a
slot is open (R50). -/
def cabinReported (s : State) : State :=
  { s with
    track := { s.track with sensorTimer := some s.track.sensorTimeout }
    slots := { s.slots with reportSeen := s.slots.reportSeen || s.slots.openSlot.isSome } }

/-- Step 4 of R120, for a report with T_cab: the return from open loop (R125). -/
def openLoopReturn (s : State) : State :=
  if s.track.openLoop then
    let t := { s.track with openLoop := false, holdSensor := false }
    let resumed := decide (t.tracker = .held) && !t.holdDoor
    { s with track := if resumed then t.restart else t }
  else s

/-- The track is lost (R131), and the test of abort on loss is made (R134). -/
def loseTrack (s : State) : State :=
  let p := s.runProfile
  let count := bump 255 s.track.lossCount
  let s := raise .trackLost { s with track := { s.track.restart with
      track := false, tracks := false, lossCount := count } }
  if p.abortOnLoss = 1 ∧ p.lossLimit ≤ count then abortRun s else s

/-- The track is acquired (R130). -/
def acquireTrack (s : State) : State :=
  raise .trackAcquired { s with track := { s.track with
      tracker := .onTrack, acquisition := 0, track := true,
      tracks := s.track.tracks || s.track.lossCount == 0 } }

/-- A report is judged by its deviation from the trajectory (R128 to R131). Judging acts in ACQ1, ACQ2 and ON_TRACK
alone. -/
def judge (deviation : Nat) (s : State) : State :=
  let w := s.runProfile.wTrack
  match s.track.tracker with
  | .acq1 =>
    if deviation ≤ w then
      if s.track.acquisition + 1 < 8 then
        { s with track := { s.track with acquisition := s.track.acquisition + 1 } }
      else { s with track := { s.track with tracker := .acq2, acquisition := 0 } }
    else { s with track := { s.track with acquisition := 0 } }
  | .acq2 =>
    if deviation ≤ w then
      if s.track.acquisition + 1 < 12 then
        { s with track := { s.track with acquisition := s.track.acquisition + 1 } }
      else acquireTrack s
    else { s with track := s.track.restart }
  | .onTrack => if deviation ≤ 2 * w then s else loseTrack s
  | .idle => s
  | .held => s

/-- A report with T_cab and the door closed is compared with the trajectory of the plan in force (R128). -/
def judgeReport (t : Int) (s : State) : State :=
  match s.plan.plan with
  | none => s
  | some r => judge (t - r.traj s.run.remaining).natAbs s

/-- A report with the door open puts an acquiring or tracking tracker in HELD, and adds DOOR in HELD (R132). -/
def holdForDoor (s : State) : State :=
  match s.track.tracker with
  | .idle => s
  | .held => { s with track := { s.track with holdDoor := true } }
  | .acq1 => { s with track := { s.track with tracker := .held, holdDoor := true, track := false } }
  | .acq2 => { s with track := { s.track with tracker := .held, holdDoor := true, track := false } }
  | .onTrack => { s with track := { s.track with tracker := .held, holdDoor := true, track := false } }

/-- A report with the door closed removes DOOR, and the tracker resumes when no cause remains (R132). -/
def releaseDoor (s : State) : State :=
  match s.track.tracker with
  | .held =>
    let t := { s.track with holdDoor := false }
    { s with track := if t.holdSensor then t else t.restart }
  | .idle => s
  | .acq1 => s
  | .acq2 => s
  | .onTrack => s

/-- Step 5 of R120: the tracker takes the report. -/
def trackReport (tCab : Option Int) (doorOpen : Bool) (s : State) : State :=
  if doorOpen then holdForDoor s
  else
    match tCab with
    | none => releaseDoor s
    | some t => judgeReport t (releaseDoor s)

/-- An accepted Sensor Report (R120). -/
def sensorArrival (tCab tOut tPack : Option Int) (doorOpen : Bool) (s : State) : State :=
  let s := storeReport tCab tOut tPack doorOpen s
  let s := if tCab.isSome then openLoopReturn (cabinReported s) else s
  trackReport tCab doorOpen s

/-- The door flag of a report (R119). -/
def doorOf (w : Byte) : Option Bool := if w = 0 then some false else if w = 1 then some true else none

/-- Sensor Report (R119). -/
def serveSensorReport (tCab tOut tPack : U16) (door : Byte) (s : State) : State × Reply :=
  match doorOf door with
  | none => (s, .refused .range)
  | some d =>
    let t := sensorArrival (receiveTemp tCab) (receiveTemp tOut) (receiveTemp tPack) d s
    (t, .ok [t.track.tracker.code, t.track.readiness.code, sensorFlags t.track])

/-! ### Actuator Status (04, 05) -/

/-- Step 1 of R93: the acknowledgement (R94). -/
def acknowledge (sequence : Byte) (s : State) : State :=
  if sequence = s.loads.sequence then
    { s with loads := { s.loads with ackGrants := s.loads.grants, ackCurrent := true } }
  else s

/-- A load enters FAULTED with a cause (R80). -/
def LoadRecord.fault (r : LoadRecord) (c : FaultCause) : LoadRecord := { r.enter .faulted with cause := some c }

/-- The effect of one reported state on its load (R79). -/
def LoadRecord.report (r : LoadRecord) (grant : Nat) (matched : Bool) (code : Byte) : LoadRecord :=
  if code = 0 then
    if r.state = .running ∧ grant ≠ 0 ∧ matched then r.fault .dropped else r
  else if code = 2 then
    if r.state = .starting then r.enter .running else r
  else if code = 3 then
    if r.state = .faulted then r else r.fault .reported
  else r

/-- What the entry of loads into FAULTED hands over: grant 0 with reason FAULTED for each load that is FAULTED now and
was not before (R80). -/
def faultedLoads (before after : PerLoad LoadRecord) : Handed :=
  .ofFn fun l =>
    if (after.get l).state = .faulted ∧ (before.get l).state ≠ .faulted then some (0, .faulted) else none

/-- The records take new values in one event; where loads enter FAULTED, one grant set is issued for all of them and
LOAD_FAULT is raised once (R80). The minimum-on test looks to the records before the event (R82). -/
def applyRecords (records : PerLoad LoadRecord) (s : State) : State :=
  let t := { s with loads := { s.loads with records := records } }
  let handed := faultedLoads s.loads.records records
  if handed = Handed.nothing then t
  else raise .loadFault (issueFrom s.loads.records.hpc handed t)

/-- The last load in allocation order whose grant is above 0 (R116). -/
def lastGranted (p : Profile) (grants : PerLoad Nat) : Option Load :=
  p.order.reverse.find? fun l => grants.get l != 0

/-- An overdraw removal (R116), whose minimum-on test looks to HPC's record before the report (R82, log 14). -/
def overdrawRemoval (hpcBefore : LoadRecord) (s : State) : State :=
  let s :=
    match lastGranted s.inForce s.loads.grants with
    | some l => issueFrom hpcBefore (Handed.nothing.set l (some (0, .shed))) s
    | none => s
  raise .overdraw { s with power := { s.power with overdraw := 0 } }

/-- The measured total and the note reach the Envelope Monitor (R115). -/
def takeMeasured (hpcBefore : LoadRecord) (total : Nat) (matched : Bool) (s : State) : State :=
  let s := { s with power := { s.power with measured := total } }
  if !matched then s
  else if s.power.budget * 105 / 100 < total then
    if s.power.overdraw + 1 < 3 then
      { s with power := { s.power with overdraw := s.power.overdraw + 1 } }
    else overdrawRemoval hpcBefore s
  else { s with power := { s.power with overdraw := 0 } }

/-- An accepted Actuator Status (R93): the acknowledgement, the states in load-number order, the grant set for the
faults, the draws. -/
def actuatorArrival (sequence : Byte) (states : PerLoad Byte) (draws : PerLoad U16) (s : State) : State :=
  let hpcBefore := s.loads.records.hpc
  let matched := decide (sequence = s.loads.sequence)
  let reported := PerLoad.ofFn fun l =>
    (s.loads.records.get l).report (s.loads.grants.get l) matched (states.get l)
  let s := acknowledge sequence s
  let s := applyRecords reported s
  takeMeasured hpcBefore (PerLoad.ofFn fun l => (draws.get l).toNat).sum matched s

/-- Actuator Status (R79, R93). -/
def serveActuatorStatus (sequence : Byte) (states : PerLoad Byte) (draws : PerLoad U16) (s : State) :
    State × Reply :=
  if states.toList.any fun c => decide (4 ≤ c.toNat) then (s, .refused .range)
  else
    let matched := decide (sequence = s.loads.sequence)
    let t := actuatorArrival sequence states draws s
    (t, .ok ([flagByte matched, t.loads.sequence] ++ le16 (sat16 t.loads.committed)))

/-! ### The other requests -/

/-- Grant Query (R96). -/
def serveGrantQuery (s : State) : State × Reply :=
  (s, .ok ([s.loads.sequence] ++ le16s s.loads.grants ++ s.loads.reasons.toList.map Reason.code
    ++ [byteOf s.loads.forcedOff]))

/-- A load's record is replaced. -/
def setRecord (l : Load) (r : LoadRecord) (s : State) : State :=
  { s with loads := { s.loads with records := s.loads.records.set l r } }

/-- The record of a load whose fault is cleared: OFF, or COOLDOWN for HPC (R83). -/
def LoadRecord.cleared (l : Load) (r : LoadRecord) : LoadRecord :=
  { r.enter (if l = .hpc then .cooldown else .off) with cause := none }

/-- Clear Fault (R83). -/
def serveClearFault (load : Byte) (s : State) : State × Reply :=
  match Load.ofNumber load.toNat with
  | none => (s, .refused .range)
  | some l =>
    let r := s.loads.records.get l
    if r.state = .faulted then
      (setRecord l (r.cleared l) s,
       .ok [load, (r.cleared l).state.code, (r.cause.map FaultCause.code).getD 0])
    else (s, .refused .state)

/-- COP Entry Write (R56). -/
def serveCopEntryWrite (index : Byte) (value : U16) (s : State) : State × Reply :=
  if 8 ≤ index.toNat then (s, .refused .range)
  else
    let v := clampNat 100 500 value.toNat
    ({ s with slots := { s.slots with cop := s.slots.cop.set index.toNat v } }, .ok ([index] ++ le16 (sat16 v)))

/-- The reason of a load whose grant a lowered limit cuts (R75). -/
def cutReason (r : Reason) : Reason := if r = .granted then .budget else r

/-- A limit is stored, and a grant above it is cut to it at once (R74, R75). -/
def setLoadLimit (l : Load) (v : Nat) (s : State) : State :=
  let t := { s with loads := s.loads.setLimit l v }
  if v < s.loads.grants.get l then
    issue (Handed.nothing.set l (some (v, cutReason (s.loads.reasons.get l)))) t
  else t

/-- Load Limit Set (R74). -/
def serveLoadLimitSet (load : Byte) (limit : U16) (s : State) : State × Reply :=
  match Load.ofNumber load.toNat with
  | none => (s, .refused .range)
  | some l =>
    if l.modulating then
      let v := roundDown l.step (clampNat l.minimum l.siliconMax limit.toNat)
      (setLoadLimit l v s, .ok ([load] ++ le16 (sat16 v)))
    else (s, .refused .range)

/-- Sensor Timeout Set (R123). -/
def serveSensorTimeoutSet (timeout : Byte) (s : State) : State × Reply :=
  let v := clampNat 2 30 timeout.toNat
  ({ s with track := { s.track with sensorTimeout := v } }, .ok [byteOf v])

end Sys2Proof.Machine
end

