-- ==== Sys2Proof/Machine/OpenRequests.lean ====
section
/-! DEFINITION. The services of the requests open to every port (spec 09, 9.6): what each does to the blocks, and its
reply. -/

namespace Sys2Proof.Machine

/-- Status Query (R180): the state as it stands; then the port's overflow flag is cleared. -/
def serveStatusQuery (p : Port) (s : State) : State × Reply :=
  let port := s.port.ports.get p
  let reply := Reply.ok ([s.run.state.code] ++ le32 s.run.remaining ++ [s.track.readiness.code]
    ++ le16 (signed16 s.track.margin)
    ++ [s.track.tracker.code, statusFlags s.track s.power.envLost port.overflow, byteOf s.store.active.val,
        s.loads.sequence]
    ++ le16 (sat16 s.power.budget))
  ({ s with port := { s.port with ports := s.port.ports.set p { port with overflow := false } } }, reply)

/-- Event Query (R156): the port's pending set, which the service empties. -/
def serveEventQuery (p : Port) (s : State) : State × Reply :=
  ({ s with router := { s.router with pendings := s.router.pendings.set p 0 } },
   .ok (le16 (s.router.pendings.get p)))

/-- Event Mask Set (R159): a set with code 15 is refused; else the mask is stored and the kinds it does not include
leave the pending set. -/
def serveEventMaskSet (p : Port) (mask : U16) (s : State) : State × Reply :=
  if mask.getLsbD 15 then (s, .refused .range)
  else
    let kept := s.router.pendings.get p &&& mask
    ({ s with router := { masks := s.router.masks.set p mask, pendings := s.router.pendings.set p kept } },
     .ok (le16 mask ++ le16 kept))

/-- The response mode of a mode field (R169). -/
def modeOf (m : Byte) : Option ResponseMode :=
  if m = 0 then some .hold else if m = 1 then some .prepared else none

/-- Port Mode Set (R169). -/
def servePortModeSet (p : Port) (mode : Byte) (s : State) : State × Reply :=
  match modeOf mode with
  | none => (s, .refused .range)
  | some m =>
    ({ s with port := { s.port with ports := s.port.ports.set p { s.port.ports.get p with mode := m } } },
     .ok [mode])

/-- A load's claim set is replaced. -/
def setClaims (l : Load) (claims : PerPort Bool) (s : State) : State :=
  let record := { s.loads.records.get l with claims := claims }
  { s with loads := { s.loads with records := s.loads.records.set l record } }

/-- SET (R86): the port joins the claim set. The first claim on a load with a grant removes the grant at once. -/
def claimSet (p : Port) (l : Load) (s : State) : State :=
  let claims := (s.loads.records.get l).claims
  let t := setClaims l (claims.set p true) s
  if !claims.nonempty ∧ s.loads.grants.get l ≠ 0 then
    issue (Handed.nothing.set l (some (0, .inhibited))) t
  else t

/-- CLEAR (R87): the port leaves the claim set, and no grant comes back. -/
def claimClear (p : Port) (l : Load) (s : State) : State :=
  setClaims l ((s.loads.records.get l).claims.set p false) s

/-- The reply of an accepted Inhibit Claim (R85), from the claim sets before and after. -/
def claimReply (p : Port) (load : Byte) (before after : PerPort Bool) : Reply :=
  .ok [load, flagByte (before.get p), flagByte (after.set p false).nonempty, portSetByte after]

/-- Inhibit Claim (R85 to R87). -/
def serveInhibitClaim (p : Port) (load action : Byte) (s : State) : State × Reply :=
  match Load.ofNumber load.toNat with
  | none => (s, .refused .range)
  | some l =>
    if 3 ≤ action.toNat then (s, .refused .range)
    else
      let t :=
        if action = 1 then claimSet p l s
        else if action = 2 then claimClear p l s
        else s
      (t, claimReply p load (s.loads.records.get l).claims (t.loads.records.get l).claims)

/-- The run state and the remaining time in a response (R2). -/
def runFields (s : State) : List Byte := [s.run.state.code] ++ le32 s.run.remaining

/-- Replan (R15). A Replan is held in PLANNING and is not served there (R18). -/
def serveReplan (s : State) : State × Reply :=
  match s.run.state with
  | .idle => (s, .refused .state)
  | .scheduled =>
    let t := scheduleCheck s
    (t, .ok (runFields t))
  | .planning => (s, .ok (runFields s))
  | .conditioning =>
    let t := replan s
    (t, .ok (runFields t))
  | .maintain =>
    let t := replan s
    (t, .ok (runFields t))

/-- The actual part of an entry in a response (R45): 255 and zeros while it is absent, else the shed count, which
saturates at 254, the grants, the flags, and the cabin temperature at the end. -/
def actualFields : Option ActualPart → List Byte
  | none => [255] ++ le16s (.all 0) ++ [0] ++ le16 (temp16 none)
  | some a => [byteOf (min a.sheds 254)] ++ le16s a.grants ++ [a.flags.byte] ++ le16 (temp16 a.cabEnd)

/-- Slot Query (R45). -/
def serveSlotQuery (index : Byte) (s : State) : State × Reply :=
  match s.plan.plan with
  | none => (s, .refused .range)
  | some r =>
    match r.slots[index.toNat]? with
    | none => (s, .refused .range)
    | some e =>
      (s, .ok ([index] ++ le16 (sat16 e.start) ++ le16 (sat16 e.stop) ++ le16 (signed16 e.trajEnd)
        ++ le16 (sat16 e.forecast) ++ actualFields e.actual))

/-- Outcome Query (R190). -/
def serveOutcomeQuery (index : Byte) (s : State) : State × Reply :=
  match s.log.entries[index.toNat]? with
  | none => (s, .refused .range)
  | some e =>
    (s, .ok (le16 (sat16 e.run) ++ [e.cause.code, byteOf e.bank.val] ++ le16 (temp16 e.tCab)
      ++ le16 (signed16 e.tSet) ++ [e.readiness.code, e.flags, byteOf e.lossCount, byteOf e.sheds]
      ++ le16 (sat16 e.duration) ++ le16s e.energy))

/-- Profile Field Read (R144). -/
def serveProfileFieldRead (bank field : Byte) (s : State) : State × Reply :=
  match bankOf bank with
  | none => (s, .refused .range)
  | some b =>
    match Field.ofId field.toNat with
    | none => (s, .refused .field)
    | some f => (s, .ok ([bank, field] ++ le16 (signed16 ((s.store.banks.get b).get f))))

/-- Reset Cause Query (R194). -/
def serveResetCauseQuery (s : State) : State × Reply := (s, .ok [s.log.causes.byte])

/-- Reset Cause Clear (R194). -/
def serveResetCauseClear (s : State) : State × Reply :=
  ({ s with log := { s.log with causes := ⟨false, false, false⟩ } }, .ok [])

/-- The device-wide setting of an id; none for 17 and above (R181). -/
def settingOf (s : State) (id : Nat) : Option Nat :=
  if id < 8 then some (s.slots.cop.get id)
  else if id = 8 then some s.loads.hpcLimit
  else if id = 9 then some s.loads.airLimit
  else if id = 10 then some s.loads.batLimit
  else if id = 11 then some s.track.sensorTimeout
  else if id = 12 then some s.plan.slotLength
  else if id = 13 then some s.power.floor
  else if id = 14 then some s.run.unit.code
  else if id = 15 then some s.run.mode.code
  else if id = 16 then some s.run.period
  else none

/-- Setting Read (R181). -/
def serveSettingRead (id : Byte) (s : State) : State × Reply :=
  match settingOf s id.toNat with
  | none => (s, .refused .range)
  | some v => (s, .ok ([id] ++ le16 (sat16 v)))

end Sys2Proof.Machine
end

