-- ==== Sys2Proof/Machine/DispatchRequests.lean ====
section
/-! DEFINITION. The services of the DISPATCH requests (spec 01, 02, 07): Departure Set, Cancel, Select Bank, Profile Field
Write, Slot Length Set. Soft Reset's service is the Request Handler's. -/

namespace Sys2Proof.Machine

/-- The unit of a unit field (R2). -/
def unitOf (w : Byte) : Option DepartureUnit :=
  if w = 0 then some .fine else if w = 1 then some .coarse else none

/-- The mode of a mode field (R2). -/
def departureModeOf (w : Byte) : Option DepartureMode :=
  if w = 0 then some .oneShot else if w = 1 then some .repeating else none

/-- The seconds of one count of a unit (R2). -/
def DepartureUnit.seconds : DepartureUnit → Nat
  | .fine => 1
  | .coarse => 60

/-- The counter is loaded and started, and the unit, the mode and, in REPEAT, the period are stored (R2, R3). -/
def loadDeparture (value : Nat) (u : DepartureUnit) (m : DepartureMode) (period : Nat) (s : State) : State :=
  { s with run := { s.run with
      remaining := value * u.seconds
      counting := true
      unit := u
      mode := m
      period := if m = .repeating then clampNat 60 1440 period else s.run.period } }

/-- What follows an accepted Departure Set (R13). In PLANNING the request is held and is not served (R18). -/
def departureArrival (value : Nat) (u : DepartureUnit) (m : DepartureMode) (period : Nat) (s : State) : State :=
  match s.run.state with
  | .idle =>
    let t := loadDeparture value u m period s
    scheduleCheck { t with run := { t.run with state := .scheduled } }
  | .scheduled => scheduleCheck (loadDeparture value u m period s)
  | .conditioning => replan (loadDeparture value u m period s)
  | .maintain => replan (loadDeparture value u m period s)
  | .planning => s

/-- Departure Set (R2). -/
def serveDepartureSet (value : U16) (unit mode : Byte) (period : U16) (s : State) : State × Reply :=
  match unitOf unit, departureModeOf mode with
  | some u, some m =>
    if value = 0 then (s, .refused .range)
    else
      let t := departureArrival value.toNat u m period.toNat s
      (t, .ok (runFields t))
  | _, _ => (s, .refused .range)

/-- Cancel (R16). In PLANNING the request is held and is not served (R18). -/
def serveCancel (s : State) : State × Reply :=
  match s.run.state with
  | .idle => (s, .refused .state)
  | .scheduled =>
    let t := enterIdle (clearAccumulators s)
    (t, .ok (runFields t))
  | .planning => (s, .ok (runFields s))
  | .conditioning =>
    let t := enterIdle (endRun .cancelled s)
    (t, .ok (runFields t))
  | .maintain =>
    let t := enterIdle (endRun .cancelled s)
    (t, .ok (runFields t))

/-- A bank becomes the active bank (R145). -/
def activate (b : Fin 4) (s : State) : State := { s with store := { s.store with active := b } }

/-- What an accepted Select Bank does (R14, R145). In PLANNING the request is held and is not served (R18). -/
def bankArrival (b : Fin 4) (s : State) : State :=
  match s.run.state with
  | .idle => computeBudget (activate b s).activeProfile (activate b s)
  | .scheduled => scheduleCheck (computeBudget (activate b s).activeProfile (activate b s))
  | .conditioning => replan (activate b s)
  | .maintain => replan (activate b s)
  | .planning => s

/-- Select Bank (R14). -/
def serveSelectBank (bank : Byte) (s : State) : State × Reply :=
  match bankOf bank with
  | none => (s, .refused .range)
  | some b =>
    let t := bankArrival b s
    (t, .ok ([byteOf t.store.active.val] ++ runFields t))

/-- A value is stored in a field of a bank; a budget field of the active bank, while that bank is the profile in force,
makes the budget be computed afresh (R143, R147 to R149). -/
def writeField (b : Fin 4) (f : Field) (v : Int) (s : State) : State :=
  let banks := s.store.banks.set b ((s.store.banks.get b).set f v)
  let t := { s with store := { s.store with banks := banks } }
  if f.inBudget ∧ b = s.store.active ∧ !s.live then computeBudget t.activeProfile t else t

/-- Profile Field Write (R143). -/
def serveProfileFieldWrite (bank field : Byte) (value : U16) (s : State) : State × Reply :=
  match bankOf bank with
  | none => (s, .refused .range)
  | some b =>
    match Field.ofId field.toNat with
    | none => (s, .refused .field)
    | some f =>
      let v := f.stored value
      (writeField b f v s,
       .ok ([bank, field] ++ le16 (signed16 v) ++ [flagByte (decide (v ≠ f.written value))]))

/-- The allowed slot length nearest to a value, the lower one when two are equally near (R24). -/
def nearestSlotLength (v : Nat) : Nat :=
  if v ≤ 45 then 30 else if v ≤ 90 then 60 else if v ≤ 180 then 120 else 240

/-- Slot Length Set (R24); in SCHEDULED a schedule check with the new setting follows (R7). -/
def serveSlotLengthSet (seconds : U16) (s : State) : State × Reply :=
  let t := scheduleCheck { s with plan := { s.plan with slotLength := nearestSlotLength seconds.toNat } }
  (t, .ok (le16 (sat16 t.plan.slotLength)))

end Sys2Proof.Machine
end

