-- ==== Sys2Proof/Machine/SupplyRequests.lean ====
section
/-! DEFINITION. The services of the SUPPLY requests (spec 05): Envelope, Floor Set, Draw Query. -/

namespace Sys2Proof.Machine

/-- The link state of a link field (R98). -/
def linkOf (w : Byte) : Option Bool := if w = 0 then some false else if w = 1 then some true else none

/-- The hold as it is taken (R98). -/
def takenHold (hold : Nat) : Nat := clampNat 1 600 hold

/-- An arrival (R98, R102, R103, R105): the envelope is stored and the hold timer loaded in every envelope state; in
NONE and LIVE the state and the source become LIVE and the budget is computed afresh. -/
def envelopeArrival (e : Envelope) (s : State) : State :=
  let s := { s with power := { s.power with latest := some e, holdTimer := some e.hold } }
  let live := { s with power := { s.power with state := .live, source := .live } }
  match s.power.state with
  | .none => computeBudget s.inForce live
  | .live => computeBudget s.inForce live
  | .lost => s

/-- Envelope (R98). -/
def serveEnvelope (link : Byte) (grid pack hold : U16) (s : State) : State × Reply :=
  match linkOf link with
  | none => (s, .refused .range)
  | some connected =>
    let t := envelopeArrival ⟨connected, grid.toNat, pack.toNat, takenHold hold.toNat⟩ s
    (t, .ok ([t.power.state.code, t.power.source.code] ++ le16 (sat16 t.power.budget)))

/-- What a lowering of the floor hands over: grant 0 with reason FLOOR for each load whose grant is above 0 and whose
level is above the new floor (R113). -/
def flooredLoads (p : Profile) (floor : Nat) (grants : PerLoad Nat) : Handed :=
  .ofFn fun l => if grants.get l ≠ 0 ∧ floor < p.level l then some (0, .floor) else none

/-- The stored floor takes a new value: a lower one removes the grants above it in one grant set, a higher one waits
for the next allocation, an equal one changes nothing (R112 to R114). -/
def setFloor (floor : Nat) (s : State) : State :=
  let t := { s with power := { s.power with floor := floor } }
  let handed := flooredLoads s.inForce floor s.loads.grants
  if floor < s.power.floor ∧ handed ≠ Handed.nothing then issue handed t else t

/-- Floor Set (R112). -/
def serveFloorSet (floor : Byte) (s : State) : State × Reply :=
  let t := setFloor (min floor.toNat 3) s
  (t, .ok [byteOf t.power.floor])

/-- Draw Query (R117). -/
def serveDrawQuery (s : State) : State × Reply :=
  (s, .ok (le16 (sat16 s.power.budget) ++ [s.power.source.code] ++ le16 (sat16 s.loads.committed)
    ++ le16 (sat16 s.power.measured) ++ le16 (sat16 s.loads.grants.sum)
    ++ [s.run.state.code, flagByte s.power.envLost]))

end Sys2Proof.Machine
end

