-- ==== Sys2Proof/Machine/Handler.lean ====
section
/-! DEFINITION. The Target Ports and the Request Handler (spec 09): writes, reads and installations at a port, the checks
of a served frame, the rotation, and the service of a request command; and the fall of a reset (spec 10), which a
Soft Reset brings at the end of its service. -/

namespace Sys2Proof.Machine

/-! ### The fall of a reset (R191, R192) -/

/-- The three kinds of reset (R191). -/
inductive ResetKind where
  | por | pin | soft
deriving DecidableEq, Repr

/-- Whether a kind of reset keeps the held state (R191). -/
def ResetKind.holds : ResetKind → Bool
  | .por => false
  | .pin => true
  | .soft => true

/-- The interrupted-run record when a reset falls (R192): none for a power-on reset; else the record already held, or
the entry of the run in progress. -/
def interruptedBy (k : ResetKind) (s : State) : Option OutcomeEntry :=
  if k.holds then
    if s.inRun then some (s.takeEntry .reset) else s.log.interrupted
  else none

/-- What the transaction in progress becomes when a reset ends it (R182, R183): a read delivers 0xFF from there on
(log 11), and a write is lost whole, with its scratch frame (log 25). -/
def Transaction.afterReset : Transaction → Transaction
  | .idle => .idle
  | .stretched _ _ => .released
  | .returning _ _ => .released
  | .released => .released
  | .writing _ _ => .idle

/-- Every block takes its reset values for the kind of reset (R22, R23, R72, R97, R118, R140, R151, R161, R162, R183,
R195). The pending sets, the straps, the reset cause record and the log's list wait for the release. -/
def fallReset (k : ResetKind) (causes : ResetCauses) (s : State) : State :=
  let store := if k.holds then s.store else StoreBlock.powerOn
  { run :=
      if k.holds then { RunBlock.powerOn with period := s.run.period, nextRun := s.run.nextRun }
      else RunBlock.powerOn
    plan := if k.holds then { PlanBlock.powerOn with slotLength := s.plan.slotLength } else PlanBlock.powerOn
    slots := if k.holds then { SlotBlock.powerOn with cop := s.slots.cop } else SlotBlock.powerOn
    loads :=
      if k.holds then
        { LoadBlock.powerOn with
          hpcLimit := s.loads.hpcLimit, airLimit := s.loads.airLimit, batLimit := s.loads.batLimit }
      else LoadBlock.powerOn
    power := .afterReset (store.banks.get store.active)
    track := if k.holds then { TrackBlock.powerOn with sensorTimeout := s.track.sensorTimeout } else TrackBlock.powerOn
    store := store
    router := .inReset
    port := .afterReset s.port.straps
    bus := .ofFn fun p => { s.bus.get p with transaction := (s.bus.get p).transaction.afterReset }
    log :=
      { entries := if k.holds then s.log.entries else []
        acc := .zero
        interrupted := interruptedBy k s
        causes := s.log.causes
        countDue := .none }
    resetting := some causes
    pending := s.pending }

/-- The soft reset that follows a Soft Reset request (R182, R191). -/
def fallSoft (s : State) : State := fallReset .soft ⟨false, false, true⟩ s

/-! ### Ports (09, 9.2, 9.3) -/

/-- A port's record is replaced. -/
def setPort (p : Port) (t : TargetPort) (s : State) : State :=
  { s with port := { s.port with ports := s.port.ports.set p t } }

/-- A port's bus is replaced. -/
def setBus (p : Port) (b : Bus) (s : State) : State := { s with bus := s.bus.set p b }

/-- The 7-bit address of a port (R163). -/
def portAddress (straps : BitVec 2) (p : Port) : BitVec 7 :=
  BitVec.ofNat 7 (0x30 + 4 * straps.toNat + p.index)

/-- The bytes that a read clocks from a frame, from a place on; beyond the frame each byte is 0xFF (R165). -/
def clocked (frame : List Byte) (start count : Nat) : List Byte :=
  (List.range count).map fun i => frame.getD (start + i) 0xFF

/-- Installation (R168): the response is in the response buffer, and the receive state is EMPTY. -/
def install (p : Port) (response : List Byte) (s : State) : State :=
  setPort p { s.port.ports.get p with rx := .empty, response := response } s

/-- The read in progress at a port stops. A response that waits for the stop is installed (R168, R173). -/
def endRead (p : Port) (s : State) : State :=
  let b := s.bus.get p
  let t := setBus p { b with transaction := .idle } s
  match b.transaction, (s.port.ports.get p).rx with
  | .returning _ _, .inService _ (some r) => install p r t
  | _, _ => t

/-- A read at a port returns a frame: the bytes it clocks are delivered, and it stops or goes on (R165, R171). -/
def returnFrame (p : Port) (frame : List Byte) (count : Nat) (stops : Bool) (s : State) : State :=
  setBus p ⟨if stops then .idle else .returning frame count, clocked frame 0 count⟩ s

/-- A frame reaches a port (R166, R167): in EMPTY it becomes PENDING with its BUSY response, and in PLANNING it is held
when its code is held (R18); in PENDING and IN_SERVICE it is an overflow. -/
def deliver (p : Port) (f : Frame) (s : State) : State :=
  let t := s.port.ports.get p
  match t.rx with
  | .empty =>
    let s := setPort p { t with rx := .pending f, response := busyResponse f.code } s
    if s.run.state = .planning ∧ heldCode f.code then
      { s with run := { s.run with held := s.run.held.set p true } }
    else s
  | .pending _ => raiseAt p .portOverflow (setPort p { t with overflow := true } s)
  | .inService _ _ => raiseAt p .portOverflow (setPort p { t with overflow := true } s)

/-- The write in progress on a port's bus ends, with its scratch frame as given. Without a byte it is ignored; else it
is a finished write (R164). -/
def endWrite (p : Port) (scratch : Frame) (s : State) : State :=
  let t := setBus p { s.bus.get p with transaction := .idle } s
  if scratch.bytes = [] then t else deliver p scratch t

/-- A new transaction begins on a port's bus. The bus carries one at a time (R163), so one in progress has ended: a read
at its stop, a write at the repeated start (R164, log 10). A stretched read holds the bus. -/
def freeBus (p : Port) (s : State) : State :=
  match (s.bus.get p).transaction with
  | .idle => s
  | .stretched _ _ => s
  | .returning _ _ => endRead p s
  | .released => endRead p s
  | .writing scratch _ => endWrite p scratch s

/-- A finished write on a port's bus. While a read is stretched there is no write (log 10). -/
def writeFrame (p : Port) (f : Frame) (s : State) : State :=
  match (s.bus.get p).transaction with
  | .stretched _ _ => s
  | .idle => deliver p f s
  | .returning _ _ => deliver p f (freeBus p s)
  | .released => deliver p f (freeBus p s)
  | .writing _ _ => deliver p f (freeBus p s)

/-- The write in progress whose stop falls within this service of its port's frame ends: the frame is in service, so it
is an overflow (R167; 08, R158; R180). -/
def endWriteInService (p : Port) (s : State) : State :=
  match (s.bus.get p).transaction with
  | .writing scratch inService => if inService then endWrite p scratch s else s
  | .idle => s
  | .stretched _ _ => s
  | .returning _ _ => s
  | .released => s

/-! ### The checks and the services (09, 9.5) -/

/-- The two-byte field at an offset of a payload (R184). -/
def fieldAt (payload : List Byte) (n : Nat) : U16 := word16 (payload.getD n 0) (payload.getD (n + 1) 0)

/-- The block that owns a request acts on it (R175, R177 step 5). The payload has the request's length. -/
def serveRequest (p : Port) (r : Request) (b : List Byte) (s : State) : State × Reply :=
  match r with
  | .statusQuery => serveStatusQuery p s
  | .eventQuery => serveEventQuery p s
  | .eventMaskSet => serveEventMaskSet p (fieldAt b 0) s
  | .portModeSet => servePortModeSet p (b.getD 0 0) s
  | .inhibitClaim => serveInhibitClaim p (b.getD 0 0) (b.getD 1 0) s
  | .replan => serveReplan s
  | .slotQuery => serveSlotQuery (b.getD 0 0) s
  | .outcomeQuery => serveOutcomeQuery (b.getD 0 0) s
  | .profileFieldRead => serveProfileFieldRead (b.getD 0 0) (b.getD 1 0) s
  | .resetCauseQuery => serveResetCauseQuery s
  | .resetCauseClear => serveResetCauseClear s
  | .settingRead => serveSettingRead (b.getD 0 0) s
  | .envelope => serveEnvelope (b.getD 0 0) (fieldAt b 1) (fieldAt b 3) (fieldAt b 5) s
  | .floorSet => serveFloorSet (b.getD 0 0) s
  | .drawQuery => serveDrawQuery s
  | .sensorReport => serveSensorReport (fieldAt b 0) (fieldAt b 2) (fieldAt b 4) (b.getD 6 0) s
  | .actuatorStatus =>
    serveActuatorStatus (b.getD 0 0) (.ofFn fun l => b.getD (1 + l.number) 0)
      (.ofFn fun l => fieldAt b (7 + 2 * l.number)) s
  | .grantQuery => serveGrantQuery s
  | .clearFault => serveClearFault (b.getD 0 0) s
  | .copEntryWrite => serveCopEntryWrite (b.getD 0 0) (fieldAt b 1) s
  | .loadLimitSet => serveLoadLimitSet (b.getD 0 0) (fieldAt b 1) s
  | .sensorTimeoutSet => serveSensorTimeoutSet (b.getD 0 0) s
  | .departureSet => serveDepartureSet (fieldAt b 0) (b.getD 2 0) (b.getD 3 0) (fieldAt b 4) s
  | .cancel => serveCancel s
  | .selectBank => serveSelectBank (b.getD 0 0) s
  | .profileFieldWrite => serveProfileFieldWrite (b.getD 0 0) (b.getD 1 0) (fieldAt b 2) s
  | .slotLengthSet => serveSlotLengthSet (fieldAt b 0) s
  | .softReset => (s, .ok [])

/-- The request that a frame of a port names after the first four checks of R177, or the refusal of the first check
that fails. -/
def checkFrame (p : Port) (f : Frame) : Except Status Request :=
  if !f.wellFormed then .error .length
  else
    match Request.ofCode f.code with
    | none => .error .code
    | some r =>
      if r.role ≠ none ∧ r.role ≠ some p then .error .role
      else if (f.bytes.drop 2).length ≠ r.payload then .error .length
      else .ok r

/-- The service of a frame (R177): a frame refused by a check changes nothing. -/
def serveFrame (p : Port) (f : Frame) (s : State) : State × Reply :=
  match checkFrame p f with
  | .error why => (s, .refused why)
  | .ok r => serveRequest p r (f.bytes.drop 2) s

/-- The installation of the response of a service (R168, R171, R173): it is made at once, and a stretched read returns
the response; where a read is returning bytes, the response waits for that read's stop. -/
def installResponse (p : Port) (f : Frame) (response : List Byte) (s : State) : State :=
  match (s.bus.get p).transaction with
  | .returning _ _ => setPort p { s.port.ports.get p with rx := .inService f (some response) } s
  | .stretched count stops => returnFrame p response count stops (install p response s)
  | .idle => install p response s
  | .released => install p response s
  | .writing _ _ => install p response s

/-- The end of a service: a write that ends within it is taken before the installation (R167, R168). -/
def completeService (p : Port) (f : Frame) (response : List Byte) (s : State) : State :=
  installResponse p f response (endWriteInService p s)

/-- A port's frame may be taken: it is PENDING and not held (R174). -/
def State.candidate (s : State) (p : Port) : Bool :=
  match (s.port.ports.get p).rx with
  | .pending _ => !s.run.held.get p
  | .empty => false
  | .inService _ _ => false

/-- The port whose frame the handler takes: the first candidate, counting on from the port after the rotation pointer
(R174, R176). -/
def State.choice (s : State) : Option Port :=
  [s.port.rotation.next, s.port.rotation.next.next, s.port.rotation].find? s.candidate

/-- The handler takes a port's frame (R174, R175): the rotation pointer names the port, and the frame is in service. -/
def takeFrame (p : Port) (f : Frame) (s : State) : State :=
  let s := setPort p { s.port.ports.get p with rx := .inService f none } s
  { s with port := { s.port with rotation := p } }

/-- The frame that the handler serves is an accepted Soft Reset (R182). -/
def isSoftReset (p : Port) (f : Frame) : Bool :=
  match checkFrame p f with
  | .ok .softReset => true
  | _ => false

/-- One service, taken whole (R175). A Soft Reset's OK response is installed, and the reset follows at once (R182). DESIGN
CHOICE (log 26): the reset also falls at once where a read of the port is stretched, and where it is returning bytes, so
that the installation and the reset do not wait for that read's stop as R168 and R173 let another installation wait; the
read is cut like every other. -/
def servePort (p : Port) (s : State) : State :=
  match (s.port.ports.get p).rx with
  | .pending f =>
    let (t, reply) := serveFrame p f (takeFrame p f s)
    if isSoftReset p f then fallSoft (install p (reply.frame f.code) t)
    else completeService p f (reply.frame f.code) t
  | .empty => s
  | .inService _ _ => s

/-- The handler serves frames in its rotation until a port's frame has been served; it stops when that port's frame is
not, or no longer, a candidate (R174, R176). At most two other ports come before it. -/
def serveUpTo (p : Port) : Nat → State → State
  | 0, s => s
  | n + 1, s =>
    if s.candidate p then
      match s.choice with
      | none => s
      | some q => if q = p then servePort q s else serveUpTo p n (servePort q s)
    else s

/-- A frame that was held before, at one of the ports given, has been released and waits for its service. -/
def State.awaitsFreed (s : State) (held : PerPort Bool) : Bool :=
  (held.supply && s.candidate .supply) || (held.climate && s.candidate .climate)
    || (held.dispatch && s.candidate .dispatch)

/-- The handler serves frames in its rotation while a condition holds and a frame is a candidate (R174). Each port has
one frame, so at most three services follow one another. -/
def serveWhile (more : State → Bool) : Nat → State → State
  | 0, s => s
  | n + 1, s =>
    if more s then
      match s.choice with
      | none => s
      | some q => serveWhile more n (servePort q s)
    else s

/-- The end of a step: the frames that were held as it began, and that it has released, are served within it, in the
handler's rotation (R18; 95, HELD_REQUEST_RELEASE). A freed frame that starts a new generation has the rest held again,
and the handler stops. -/
def serveReleased (before s : State) : State := serveWhile (fun t => t.awaitsFreed before.run.held) 3 s

/-- The handler serves every frame that is PENDING and not held (R174). -/
def serveWaiting (s : State) : State := serveWhile (fun _ => true) 3 s

/-- The handler's work on a port's frame: R174's rotation has three places. A service that ends a run in PLANNING
releases the held frames, which are served after it (R11, R18). -/
def handle (p : Port) (s : State) : State := serveReleased s (serveUpTo p 3 s)

/-- The frame stands PENDING at the port and is not held. -/
def awaits (p : Port) (f : Frame) (s : State) : Bool :=
  (s.port.ports.get p).rx == .pending f && !s.run.held.get p

/-- A request command (log 2, log 3). While a reset is in progress the ports acknowledge nothing (R191), and a write
without data is ignored (R164). Where the command's frame already stands PENDING and is not held, the command is its
service. Otherwise it is the controller's finished write of the frame, and the handler then serves it in its turn,
unless it is held. -/
def request (p : Port) (f : Frame) (s : State) : State :=
  if s.resetting.isSome ∨ f.bytes = [] then s
  else if awaits p f s then handle p s
  else
    match (s.port.ports.get p).rx with
    | .pending _ => writeFrame p f s
    | .empty => handle p (writeFrame p f s)
    | .inService _ _ => handle p (writeFrame p f s)

/-- The meaning of a command that stands for a request frame (09, 9.7). -/
def requestCommand (c : Instr) (s : State) : Host.Outcome State Fault Refusal :=
  match requestFrame c with
  | some (p, f) => .next (request p f s)
  | none => .next s

end Sys2Proof.Machine
end

