-- ==== Sys2Proof/Machine/PortEvents.lean ====
section
/-! DEFINITION. The events at a port (spec 09): FINISHED_WRITE, RESPONSE_READ, STRETCH_LIMIT, DEFERRED_INSTALLATION. -/

namespace Sys2Proof.Machine

/-- The port acknowledges an address on its bus (R163, R191). -/
def State.acknowledges (s : State) (p : Port) (address : BitVec 7) : Bool :=
  s.resetting.isNone && address == portAddress s.port.straps p

/-- A write with its scratch frame as the bytes so far have filled it: it ends, or it stays in progress (R164). -/
def proceedWrite (p : Port) (scratch : Frame) (ends : WriteEnd) (s : State) : State :=
  match ends with
  | .stop => endWrite p scratch s
  | .goesOn => setBus p { s.bus.get p with transaction := .writing scratch false } s
  | .inService => setBus p { s.bus.get p with transaction := .writing scratch true } s

/-- The bytes of a write at a port: they carry on with a write in progress, or begin one (R163, R164). While a read is
stretched there is no write (log 10). -/
def writeBytes (p : Port) (data : List Byte) (ends : WriteEnd) (s : State) : State :=
  match (s.bus.get p).transaction with
  | .stretched _ _ => s
  | .writing scratch _ => proceedWrite p (scratch.extend data) ends s
  | .idle => proceedWrite p (frameOf data) ends s
  | .returning _ _ => proceedWrite p (frameOf data) ends (freeBus p s)
  | .released => proceedWrite p (frameOf data) ends (freeBus p s)

/-- A transaction on the port's bus that the port does not acknowledge: its start ends the transaction in progress, as a
stop does (R163, R164, R173). While a reset is in progress nothing changes (R191, log 9). -/
def passOver (p : Port) (s : State) : State := if s.resetting.isSome then s else freeBus p s

/-- FINISHED_WRITE (R164, R166, R167). A frame that is PENDING then waits for the handler (log 3). -/
def execFinishedWrite (p : Port) (address : BitVec 7) (data : WriteData) (s : State) :
    Host.Outcome State Fault Refusal :=
  .next (if s.acknowledges p address then writeBytes p data.bytes data.ends s else passOver p s)

/-- A read begins at a port whose bus is free (R165, R170, R171): in HOLD it is stretched while a request is
outstanding; else it returns the response buffer at once. -/
def beginRead (p : Port) (count : Nat) (stops : Bool) (s : State) : State :=
  let t := s.port.ports.get p
  if t.mode = .hold ∧ t.rx ≠ .empty then setBus p ⟨.stretched count stops, []⟩ s
  else returnFrame p t.response count stops s

/-- RESPONSE_READ (R165, R170 to R172). A transaction in progress has ended before this read begins, a write at the
repeated start, and while a read is stretched no other begins (R163, R164, log 10). -/
def execResponseRead (p : Port) (address : BitVec 7) (count : Nat) (stops : Bool) (s : State) :
    Host.Outcome State Fault Refusal :=
  .next (
    if s.acknowledges p address then
      match (s.bus.get p).transaction with
      | .stretched _ _ => s
      | .idle => beginRead p count stops s
      | .returning _ _ => beginRead p count stops (freeBus p s)
      | .released => beginRead p count stops (freeBus p s)
      | .writing _ _ => beginRead p count stops (freeBus p s)
    else passOver p s)

/-- The code of the frame that a port has outstanding. -/
def RxState.code : RxState → Byte
  | .empty => 0
  | .pending f => f.code
  | .inService f _ => f.code

/-- STRETCH_LIMIT (R171): the stretched read returns the NOT_READY frame, which is never installed; the request stays
outstanding. -/
def execStretchLimit (p : Port) (s : State) : Host.Outcome State Fault Refusal :=
  .next (
    match (s.bus.get p).transaction with
    | .stretched count stops => returnFrame p (notReadyFrame (s.port.ports.get p).rx.code) count stops s
    | .idle => s
    | .returning _ _ => s
    | .released => s
    | .writing _ _ => s)

/-- The bytes that a read in progress clocks before its stop are added to its data (R165, R173, R182). -/
def clockMore (p : Port) (count : Nat) (s : State) : State :=
  let b := s.bus.get p
  match b.transaction with
  | .returning frame sent => setBus p { b with data := b.data ++ clocked frame sent count } s
  | .released => setBus p { b with data := b.data ++ clocked [] 0 count } s
  | .idle => s
  | .stretched _ _ => s
  | .writing _ _ => s

/-- DEFERRED_INSTALLATION (R173): the read in progress returns the rest of what it clocks from the frame it began with,
and stops; a response whose service completed meanwhile is installed. After a reset the rest of a read is 0xFF
(R182). A stretched read does not stop, and without a read nothing happens. -/
def execDeferredInstallation (p : Port) (count : Nat) (s : State) : Host.Outcome State Fault Refusal :=
  .next (
    match (s.bus.get p).transaction with
    | .returning _ _ => endRead p (clockMore p count s)
    | .released => endRead p (clockMore p count s)
    | .idle => s
    | .stretched _ _ => s
    | .writing _ _ => s)

end Sys2Proof.Machine
end

