-- ==== Sys2Proof/Machine/Requests.lean ====
section
/-! DEFINITION. The request commands: each is its frame of spec 09, 9.7, written and served at its port (log 2). What a
served frame does is the service of its name in OpenRequests, SupplyRequests, ClimateRequests or
DispatchRequests. -/

namespace Sys2Proof.Machine

/-- Status Query (R180). -/
def execStatusQuery (p : Port) (s : State) : Host.Outcome State Fault Refusal :=
  requestCommand (.statusQuery p) s

/-- Event Query (R156). -/
def execEventQuery (p : Port) (s : State) : Host.Outcome State Fault Refusal :=
  requestCommand (.eventQuery p) s

/-- Event Mask Set (R159). -/
def execEventMaskSet (p : Port) (mask : U16) (s : State) : Host.Outcome State Fault Refusal :=
  requestCommand (.eventMaskSet p mask) s

/-- Port Mode Set (R169). -/
def execPortModeSet (p : Port) (mode : Byte) (s : State) : Host.Outcome State Fault Refusal :=
  requestCommand (.portModeSet p mode) s

/-- Inhibit Claim with action SET (R85, R86). -/
def execInhibitClaimSet (p : Port) (load : Byte) (s : State) : Host.Outcome State Fault Refusal :=
  requestCommand (.inhibitClaimSet p load) s

/-- Inhibit Claim with action CLEAR (R85, R87). -/
def execInhibitClaimClear (p : Port) (load : Byte) (s : State) : Host.Outcome State Fault Refusal :=
  requestCommand (.inhibitClaimClear p load) s

/-- Inhibit Claim with action TEST (R85, R87). -/
def execInhibitClaimTest (p : Port) (load : Byte) (s : State) : Host.Outcome State Fault Refusal :=
  requestCommand (.inhibitClaimTest p load) s

/-- Replan (R15, R17). -/
def execReplan (p : Port) (s : State) : Host.Outcome State Fault Refusal :=
  requestCommand (.replan p) s

/-- Slot Query (R45). -/
def execSlotQuery (p : Port) (index : Byte) (s : State) : Host.Outcome State Fault Refusal :=
  requestCommand (.slotQuery p index) s

/-- Outcome Query (R190). -/
def execOutcomeQuery (p : Port) (index : Byte) (s : State) : Host.Outcome State Fault Refusal :=
  requestCommand (.outcomeQuery p index) s

/-- Profile Field Read (R144). -/
def execProfileFieldRead (p : Port) (bank field : Byte) (s : State) : Host.Outcome State Fault Refusal :=
  requestCommand (.profileFieldRead p bank field) s

/-- Reset Cause Query (R194). -/
def execResetCauseQuery (p : Port) (s : State) : Host.Outcome State Fault Refusal :=
  requestCommand (.resetCauseQuery p) s

/-- Reset Cause Clear (R194). -/
def execResetCauseClear (p : Port) (s : State) : Host.Outcome State Fault Refusal :=
  requestCommand (.resetCauseClear p) s

/-- Setting Read (R181). -/
def execSettingRead (p : Port) (id : Byte) (s : State) : Host.Outcome State Fault Refusal :=
  requestCommand (.settingRead p id) s

/-- A frame that no other request command stands for (R177). -/
def execUnknownRequest (p : Port) (bytes : List Byte) (s : State) : Host.Outcome State Fault Refusal :=
  requestCommand (.unknownRequest p bytes) s

/-- Envelope (R98). -/
def execEnvelope (p : Port) (link : Byte) (grid pack hold : U16) (s : State) :
    Host.Outcome State Fault Refusal :=
  requestCommand (.envelope p link grid pack hold) s

/-- Floor Set (R112). -/
def execFloorSet (p : Port) (floor : Byte) (s : State) : Host.Outcome State Fault Refusal :=
  requestCommand (.floorSet p floor) s

/-- Draw Query (R117). -/
def execDrawQuery (p : Port) (s : State) : Host.Outcome State Fault Refusal :=
  requestCommand (.drawQuery p) s

/-- Sensor Report (R119, R120). -/
def execSensorReport (p : Port) (tCab tOut tPack : U16) (door : Byte) (s : State) :
    Host.Outcome State Fault Refusal :=
  requestCommand (.sensorReport p tCab tOut tPack door) s

/-- Actuator Status (R93). -/
def execActuatorStatus (p : Port) (sequence : Byte) (states : PerLoad Byte) (draws : PerLoad U16) (s : State) :
    Host.Outcome State Fault Refusal :=
  requestCommand (.actuatorStatus p sequence states draws) s

/-- Grant Query (R96). -/
def execGrantQuery (p : Port) (s : State) : Host.Outcome State Fault Refusal :=
  requestCommand (.grantQuery p) s

/-- Clear Fault (R83). -/
def execClearFault (p : Port) (load : Byte) (s : State) : Host.Outcome State Fault Refusal :=
  requestCommand (.clearFault p load) s

/-- COP Entry Write (R56). -/
def execCopEntryWrite (p : Port) (index : Byte) (value : U16) (s : State) : Host.Outcome State Fault Refusal :=
  requestCommand (.copEntryWrite p index value) s

/-- Load Limit Set (R74, R75). -/
def execLoadLimitSet (p : Port) (load : Byte) (limit : U16) (s : State) : Host.Outcome State Fault Refusal :=
  requestCommand (.loadLimitSet p load limit) s

/-- Sensor Timeout Set (R123). -/
def execSensorTimeoutSet (p : Port) (timeout : Byte) (s : State) : Host.Outcome State Fault Refusal :=
  requestCommand (.sensorTimeoutSet p timeout) s

/-- Departure Set (R2, R13). -/
def execDepartureSet (p : Port) (value : U16) (unit mode : Byte) (period : U16) (s : State) :
    Host.Outcome State Fault Refusal :=
  requestCommand (.departureSet p value unit mode period) s

/-- Cancel (R16). -/
def execCancel (p : Port) (s : State) : Host.Outcome State Fault Refusal :=
  requestCommand (.cancel p) s

/-- Select Bank (R14, R145). -/
def execSelectBank (p : Port) (bank : Byte) (s : State) : Host.Outcome State Fault Refusal :=
  requestCommand (.selectBank p bank) s

/-- Profile Field Write (R143). -/
def execProfileFieldWrite (p : Port) (bank field : Byte) (value : U16) (s : State) :
    Host.Outcome State Fault Refusal :=
  requestCommand (.profileFieldWrite p bank field value) s

/-- Slot Length Set (R24). -/
def execSlotLengthSet (p : Port) (seconds : U16) (s : State) : Host.Outcome State Fault Refusal :=
  requestCommand (.slotLengthSet p seconds) s

/-- Soft Reset (R182). -/
def execSoftReset (p : Port) (s : State) : Host.Outcome State Fault Refusal :=
  requestCommand (.softReset p) s

end Sys2Proof.Machine
end

