-- ==== Sys2Proof/Machine/Resets.lean ====
section
/-! DEFINITION. The resets (spec 10, 10.5): POWER_ON_RESET, PIN_RESET, RESET_RELEASE. -/

namespace Sys2Proof.Machine

/-- POWER_ON_RESET (R191): it makes any reset in progress a power-on reset. -/
def execPowerOnReset (s : State) : Host.Outcome State Fault Refusal :=
  .next (fallReset .por ⟨true, false, false⟩ s)

/-- PIN_RESET (R191): RESETn goes low. During a power-on reset it only extends that reset; during a soft reset the
reset is of both kinds. -/
def execPinReset (s : State) : Host.Outcome State Fault Refusal :=
  .next (
    match s.resetting with
    | none => fallReset .pin ⟨false, true, false⟩ s
    | some c => if c.por then s else { s with resetting := some { c with pin := true } })

/-- The reset cause record after the release of a reset (R193). -/
def ResetCauses.after (old now : ResetCauses) : ResetCauses :=
  if now.por then ⟨true, false, false⟩ else ⟨old.por, old.pin || now.pin, old.soft || now.soft⟩

/-- The interrupted-run record, if there is one, is appended, and becomes none (R192). -/
def appendInterrupted (s : State) : State :=
  match s.log.interrupted with
  | none => s
  | some e =>
    let s := appendEntry e s
    { s with log := { s.log with interrupted := none } }

/-- The release of a reset (R161, R163, R191 to R193): the straps are sampled, an interrupted-run record is appended,
the reset cause record is set, and RESET_DONE is pending at every port. -/
def release (causes : ResetCauses) (straps : BitVec 2) (s : State) : State :=
  let s := appendInterrupted s
  { s with
    port := { s.port with straps := straps }
    log := { s.log with causes := s.log.causes.after causes }
    router := .atRelease
    resetting := none }

/-- The two strap levels as the base address takes them (R163). -/
def strapsOf (adsel1 adsel0 : Bool) : BitVec 2 := BitVec.ofNat 2 (2 * adsel1.toNat + adsel0.toNat)

/-- RESET_RELEASE (R191). Without a reset in progress there is none to release, and nothing changes. -/
def execResetRelease (adsel1 adsel0 : Bool) (s : State) : Host.Outcome State Fault Refusal :=
  .next (
    match s.resetting with
    | none => s
    | some c => release c (strapsOf adsel1 adsel0) s)

end Sys2Proof.Machine
end

