-- ==== Sys2Proof/Machine/TimeEvents.lean ====
section
/-! DEFINITION. The events of the time base (spec 01 to 06): TIME_BASE_TICK, the events that a tick brings, and
PLAN_COMPLETION. -/

namespace Sys2Proof.Machine

/-! ### What a tick brings: when each event is due, and what it does -/

/-- An expiry of the sensor timer is due (R122). -/
def sensorExpiryDue (s : State) : Bool := s.track.sensorTimer == some 0

/-- An expiry of the sensor timer (R122): the timer stops, and sensor loss is declared while grants are live. -/
def sensorExpiry (s : State) : State :=
  let t := { s with track := { s.track with sensorTimer := none } }
  if s.live then declareSensorLoss t else t

/-- An expiry of the hold timer is due (R103). -/
def holdExpiryDue (s : State) : Bool := s.power.holdTimer == some 0

/-- An expiry of the hold timer (R103 to R105): the timer stops; in LIVE the envelope is lost, and the fallback budget
comes into force, with the shed it may cause. -/
def holdExpiry (s : State) : State :=
  let t := { s with power := { s.power with holdTimer := none } }
  match s.power.state with
  | .live =>
    let lost := { t with power := { t.power with state := .lost, envLost := true, source := .fallback } }
    computeBudget s.inForce (raise .envLost lost)
  | .none => t
  | .lost => t

/-- A load's start timeout (R78). -/
def LoadRecord.timedOut (r : LoadRecord) : Bool := r.state == .starting && 15 ≤ r.age

/-- A start timeout is due (R78). -/
def startTimeoutDue (s : State) : Bool := Load.all.any fun l => (s.loads.records.get l).timedOut

/-- The start timeouts that fall on one tick, taken together (R78, R80). -/
def startTimeouts (s : State) : State :=
  let after := fun l =>
    let r := s.loads.records.get l
    if r.timedOut then r.fault .noStart else r
  applyRecords (.ofFn after) s

/-- The end of COOLDOWN is due (R81). -/
def cooldownEndDue (s : State) : Bool :=
  s.loads.records.hpc.state == .cooldown && 180 ≤ s.loads.records.hpc.age

/-- The end of COOLDOWN (R81): HPC goes to OFF, and no grant set is issued. -/
def endCooldown (s : State) : State := setRecord .hpc (s.loads.records.hpc.enter .off) s

/-- HPC's state age in RUNNING stands at 120 (R82). -/
def minimumOnEndDue (s : State) : Bool :=
  s.loads.records.hpc.state == .running && s.loads.records.hpc.age == 120

/-- The windscreen energy is spent (R61). -/
def screenSpentDue (s : State) : Bool := s.slots.screenEnergy == 0

/-- The phase change is due (R12). With S = 0 the remaining time reaches S at expiry alone. -/
def phaseChangeDue (s : State) : Bool :=
  s.run.state == .conditioning && s.run.remaining == s.runProfile.settle && s.run.remaining != 0

/-- The phase change (R12). -/
def changePhase (s : State) : State := { s with run := { s.run with state := .maintain } }

/-- The slot, other than slot 0, that starts at the remaining time as it stands (R40, R48). -/
def State.startingSlot (s : State) : Option Nat :=
  match s.plan.plan with
  | none => none
  | some r =>
    match r.slots.findIdx? fun e => e.start == s.run.remaining with
    | some 0 => none
    | n => n

/-- A slot start is due: in CONDITIONING or MAINTAIN the remaining time stands at the start of a slot that is not the
open slot yet (R48). -/
def slotStartDue (s : State) : Bool :=
  (s.run.state == .conditioning || s.run.state == .maintain) && s.run.remaining != 0 &&
    s.startingSlot.isSome && s.slots.openSlot != s.startingSlot

/-- A slot start (R48): the open slot is closed, the slot that starts is allocated, and the forecast is made from the
run profile and the values as they stand (R136). -/
def startSlot (s : State) : State :=
  match s.startingSlot with
  | none => s
  | some n =>
    let s := allocateSlot n (closeSlot s)
    let i := s.leadInputs s.runProfile
    forecast s.runProfile i.tCab (heatingTime i) s

/-- The schedule check that a tick brought is still to be made (R7). -/
def checkDue (s : State) : Bool := s.run.checkDue && s.run.state == .scheduled

/-! ### The tick -/

/-- A timer that runs is lowered by 1 (R103, R122). -/
def lowerTimer : Option Nat → Option Nat
  | none => none
  | some n => some (n - 1)

/-- The run accumulators after a tick (R187). -/
def Accumulators.tick (a : Accumulators) (grants : PerLoad Nat) : Accumulators :=
  { a with
    duration := bump 65535 a.duration
    energy := .ofFn fun l => a.energy.get l + grants.get l }

/-- The first part of a tick: the counters, timers and ages (R3, R76, R103, R122), and the schedule check that it brings
(R7). Its second part, by the grants, is then due. -/
def countTime (s : State) : State :=
  let remaining := if s.run.counting then s.run.remaining - 1 else s.run.remaining
  let aged := fun l => { s.loads.records.get l with age := bump 65535 (s.loads.records.get l).age }
  { s with
    run := { s.run with
      remaining := remaining
      checkDue := s.run.state == .scheduled && remaining % s.plan.slotLength == 0 }
    loads := { s.loads with records := .ofFn aged }
    power := { s.power with holdTimer := lowerTimer s.power.holdTimer }
    track := { s.track with sensorTimer := lowerTimer s.track.sensorTimer }
    log := { s.log with countDue := .due } }

/-- The second part of a tick: what it adds and drains by the grants in force, to the run accumulators (R187) and from the
windscreen energy (R61). -/
def countGrants (s : State) : State :=
  let drain := if s.loads.records.scr.state = .running then s.loads.grants.scr else 0
  { s with
    slots := { s.slots with screenEnergy := s.slots.screenEnergy - drain }
    log := { s.log with
      acc := if s.inRun then s.log.acc.tick s.loads.grants else s.log.acc
      countDue := .none } }

/-- The tick in progress is finished: where its second part is due, it is made. -/
def closeTick (s : State) : State :=
  if s.resetting.isSome then s
  else
    match s.log.countDue with
    | .none => s
    | .outside => { s with log := { s.log with countDue := .none } }
    | .due => countGrants s

/-- An expiry with what comes with it in the same step. The tick that brings the remaining time to 0 adds the grants
before the run end (R187). An expiry in PLANNING releases the held frames, and each is served in the state that the run
end has left (R5, R11, R18). -/
def expiry (s : State) : State := serveReleased s (expire (closeTick s))

/-- Takes an event when it is due. -/
def takeIf (due : State → Bool) (act : State → State) (s : State) : State := if due s then act s else s

/-- What the last tick brought and no command has taken yet, taken in a fixed order (log 4). -/
def settle (s : State) : State :=
  let s := takeIf sensorExpiryDue sensorExpiry s
  let s := takeIf holdExpiryDue holdExpiry s
  let s := takeIf startTimeoutDue startTimeouts s
  let s := takeIf cooldownEndDue endCooldown s
  let s := takeIf phaseChangeDue changePhase s
  let s := takeIf slotStartDue startSlot s
  let s := takeIf checkDue scheduleCheck s
  takeIf State.expired expiry s

/-- What is taken before a tick: the events that the last tick brought, and the service of the frames that wait, since
the handler takes a waiting frame at once (R174, log 3, log 4). -/
def beforeTick (s : State) : State := serveWaiting (settle s)

/-- The first part of the next tick, with what comes before it. While a reset is in progress the time base does not run
(log 9); that holds also where what comes before the tick ends in a soft reset. -/
def openTick (s : State) : State :=
  if s.resetting.isSome then s
  else
    let t := beforeTick s
    if t.resetting.isSome then t else countTime t

/-- A tick of the time base: the tick in progress is finished, or else the next tick is made whole. -/
def tick (s : State) : State :=
  match s.log.countDue with
  | .none => closeTick (openTick s)
  | .outside => closeTick s
  | .due => closeTick s

/-- The moments at which an event may be taken, the earliest first: as things stand; at the end of the tick in progress;
between the two parts of the next tick, since either of the issue of a grant set and a tick may be taken first (R187);
and at the end of the next tick. -/
def moments (s : State) : List State :=
  let closed := closeTick s
  let opened := openTick closed
  [s, closed, opened, closeTick opened]

/-- An event that a tick brings: it is taken at the first moment at which it is due. Where there is none, or a reset is
in progress, the event does not fall, and nothing changes (log 4, log 6). -/
def tickThat (due : State → Bool) (act : State → State) (s : State) : State :=
  match (moments s).find? fun t => t.resetting.isNone && due t with
  | some t => act t
  | none => s

/-! ### The commands -/

/-- TIME_BASE_TICK (R3): where an event was given before its tick, this is the rest of that tick (log 4). -/
def execTimeBaseTick (s : State) : Host.Outcome State Fault Refusal := .next (tick s)

/-- DEPARTURE_EXPIRY (R5). -/
def execDepartureExpiry (s : State) : Host.Outcome State Fault Refusal := .next (tickThat State.expired expiry s)

/-- SCHEDULE_CHECK (R7, R8): the check of a tick after which the remaining time is a multiple of the slot length
setting. -/
def execScheduleCheck (s : State) : Host.Outcome State Fault Refusal := .next (tickThat checkDue scheduleCheck s)

/-- PHASE_CHANGE (R12). -/
def execPhaseChange (s : State) : Host.Outcome State Fault Refusal := .next (tickThat phaseChangeDue changePhase s)

/-- SLOT_START (R48). -/
def execSlotStart (s : State) : Host.Outcome State Fault Refusal := .next (tickThat slotStartDue startSlot s)

/-- HOLD_TIMER_EXPIRY (R103 to R105). -/
def execHoldTimerExpiry (s : State) : Host.Outcome State Fault Refusal := .next (tickThat holdExpiryDue holdExpiry s)

/-- START_TIMEOUT (R78, R80). -/
def execStartTimeout (s : State) : Host.Outcome State Fault Refusal := .next (tickThat startTimeoutDue startTimeouts s)

/-- COOLDOWN_END (R81). -/
def execCooldownEnd (s : State) : Host.Outcome State Fault Refusal := .next (tickThat cooldownEndDue endCooldown s)

/-- MINIMUM_ON_END (R82): the minimum-on time is a matter of HPC's state age, so its end changes nothing more. -/
def execMinimumOnEnd (s : State) : Host.Outcome State Fault Refusal := .next (tickThat minimumOnEndDue id s)

/-- WINDSCREEN_ENERGY_SPENT (R61): the tick that spends the energy leaves it at 0, where it stays. -/
def execWindscreenEnergySpent (s : State) : Host.Outcome State Fault Refusal := .next (tickThat screenSpentDue id s)

/-- SENSOR_TIMER_EXPIRY (R122). -/
def execSensorTimerExpiry (s : State) : Host.Outcome State Fault Refusal :=
  .next (tickThat sensorExpiryDue sensorExpiry s)

/-- The completion of the generation in flight, if there is one, with the service of the frames it releases (R10, R18,
R30). -/
def completion (s : State) : State :=
  match s.run.state, s.plan.capture with
  | .planning, some c => serveReleased s (completePlan c s)
  | _, _ => s

/-- PLAN_COMPLETION (R30). The events that the last tick brought fell with that tick, so they come first (log 8): a
timer at 0 has stopped (R122), and an expiry of the departure abandons the generation (R11). Without a generation in
flight, and while a reset is in progress (log 9), nothing changes. -/
def execPlanCompletion (s : State) : Host.Outcome State Fault Refusal :=
  .next (
    if s.resetting.isSome then s
    else
      match s.run.state with
      | .planning => if s.expired then settle s else completion (settle s)
      | .idle => s
      | .scheduled => s
      | .conditioning => s
      | .maintain => s)

end Sys2Proof.Machine
end

