-- ==== Sys2Proof/Machine/Dispatch.lean ====
section
/-! DEFINITION. One arm for each command: a direct call of its meaning. -/

namespace Sys2Proof.Machine

def exec (i : Instr) (s : State) : Host.Outcome State Fault Refusal :=
  match i with
  | .statusQuery p => Sys2Proof.Machine.execStatusQuery p s
  | .eventQuery p => Sys2Proof.Machine.execEventQuery p s
  | .eventMaskSet p mask => Sys2Proof.Machine.execEventMaskSet p mask s
  | .portModeSet p mode => Sys2Proof.Machine.execPortModeSet p mode s
  | .inhibitClaimSet p load => Sys2Proof.Machine.execInhibitClaimSet p load s
  | .inhibitClaimClear p load => Sys2Proof.Machine.execInhibitClaimClear p load s
  | .inhibitClaimTest p load => Sys2Proof.Machine.execInhibitClaimTest p load s
  | .replan p => Sys2Proof.Machine.execReplan p s
  | .slotQuery p index => Sys2Proof.Machine.execSlotQuery p index s
  | .outcomeQuery p index => Sys2Proof.Machine.execOutcomeQuery p index s
  | .profileFieldRead p bank field => Sys2Proof.Machine.execProfileFieldRead p bank field s
  | .resetCauseQuery p => Sys2Proof.Machine.execResetCauseQuery p s
  | .resetCauseClear p => Sys2Proof.Machine.execResetCauseClear p s
  | .settingRead p id => Sys2Proof.Machine.execSettingRead p id s
  | .unknownRequest p bytes => Sys2Proof.Machine.execUnknownRequest p bytes s
  | .envelope p link grid pack hold => Sys2Proof.Machine.execEnvelope p link grid pack hold s
  | .floorSet p floor => Sys2Proof.Machine.execFloorSet p floor s
  | .drawQuery p => Sys2Proof.Machine.execDrawQuery p s
  | .sensorReport p tCab tOut tPack door => Sys2Proof.Machine.execSensorReport p tCab tOut tPack door s
  | .actuatorStatus p sequence states draws => Sys2Proof.Machine.execActuatorStatus p sequence states draws s
  | .grantQuery p => Sys2Proof.Machine.execGrantQuery p s
  | .clearFault p load => Sys2Proof.Machine.execClearFault p load s
  | .copEntryWrite p index value => Sys2Proof.Machine.execCopEntryWrite p index value s
  | .loadLimitSet p load limit => Sys2Proof.Machine.execLoadLimitSet p load limit s
  | .sensorTimeoutSet p timeout => Sys2Proof.Machine.execSensorTimeoutSet p timeout s
  | .departureSet p value unit mode period => Sys2Proof.Machine.execDepartureSet p value unit mode period s
  | .cancel p => Sys2Proof.Machine.execCancel p s
  | .selectBank p bank => Sys2Proof.Machine.execSelectBank p bank s
  | .profileFieldWrite p bank field value => Sys2Proof.Machine.execProfileFieldWrite p bank field value s
  | .slotLengthSet p seconds => Sys2Proof.Machine.execSlotLengthSet p seconds s
  | .softReset p => Sys2Proof.Machine.execSoftReset p s
  | .finishedWrite p address data => Sys2Proof.Machine.execFinishedWrite p address data s
  | .responseRead p address count stops => Sys2Proof.Machine.execResponseRead p address count stops s
  | .stretchLimit p => Sys2Proof.Machine.execStretchLimit p s
  | .deferredInstallation p count => Sys2Proof.Machine.execDeferredInstallation p count s
  | .timeBaseTick => Sys2Proof.Machine.execTimeBaseTick s
  | .departureExpiry => Sys2Proof.Machine.execDepartureExpiry s
  | .scheduleCheck => Sys2Proof.Machine.execScheduleCheck s
  | .planCompletion => Sys2Proof.Machine.execPlanCompletion s
  | .phaseChange => Sys2Proof.Machine.execPhaseChange s
  | .slotStart => Sys2Proof.Machine.execSlotStart s
  | .holdTimerExpiry => Sys2Proof.Machine.execHoldTimerExpiry s
  | .startTimeout => Sys2Proof.Machine.execStartTimeout s
  | .cooldownEnd => Sys2Proof.Machine.execCooldownEnd s
  | .minimumOnEnd => Sys2Proof.Machine.execMinimumOnEnd s
  | .windscreenEnergySpent => Sys2Proof.Machine.execWindscreenEnergySpent s
  | .sensorTimerExpiry => Sys2Proof.Machine.execSensorTimerExpiry s
  | .powerOnReset => Sys2Proof.Machine.execPowerOnReset s
  | .pinReset => Sys2Proof.Machine.execPinReset s
  | .resetRelease adsel1 adsel0 => Sys2Proof.Machine.execResetRelease adsel1 adsel0 s

end Sys2Proof.Machine
end

