-- ==== Sys2Proof/Safety.lean ====
section
/-! DEFINITION. The terms in which statements speak of the CPC-340: a port that can have a request served at once, the
state after an answer, and the properties that every state of the part has. -/

namespace Sys2Proof.Machine

/-! ### Requests at a port -/

/-- No frame waits for the Request Handler (R174). -/
def State.quiet (s : State) : Bool :=
  !s.candidate .supply && !s.candidate .climate && !s.candidate .dispatch

/-- A request written at the port is served at once: no reset is in progress, the port is EMPTY and not held, no transaction
is in progress on its bus, and no other frame waits. -/
def State.ready (s : State) (p : Port) : Bool :=
  s.resetting.isNone && (s.port.ports.get p).rx == .empty && !s.run.held.get p && (s.bus.get p).transaction == .idle
    && s.quiet

/-- The port's own buffers after an answer: the response is installed, and the rotation pointer names the port (R168,
R174). Nothing else changes. -/
def answered (p : Port) (response : List Byte) (s : State) : State :=
  { s with port := { s.port with
      ports := s.port.ports.set p { s.port.ports.get p with response := response }, rotation := p } }

/-- The state after an OK response with a payload (R165, R179). -/
def answeredOk (p : Port) (code : Byte) (payload : List Byte) (s : State) : State :=
  answered p ([0x00, code, byteOf payload.length] ++ payload) s

/-- The state after a refusal: a refused frame changes nothing but its own port's buffers (R177, R179). -/
def refused (p : Port) (status code : Byte) (s : State) : State := answered p [status, code, 0] s

/-- The kinds of a list are pending at every port that masks them in, and nothing else in the router has changed
(R153). -/
def recorded (ks : List EventKind) (r : RouterBlock) : RouterBlock :=
  { r with pendings := .ofFn fun p => r.pendings.get p ||| (r.masks.get p &&& EventKind.setOf ks) }

/-! ### The time base -/

/-- No event that the last tick brought waits to be taken (log 4). -/
def State.settled (s : State) : Bool :=
  !sensorExpiryDue s && !holdExpiryDue s && !startTimeoutDue s && !cooldownEndDue s && !phaseChangeDue s
    && !slotStartDue s && !checkDue s && !s.expired

/-! ### Properties that every step keeps -/

/-- The sum of the grants does not exceed the budget in force (R108). -/
def State.withinBudget (s : State) : Prop := s.loads.grants.sum ≤ s.power.budget

/-- While BLW's grant is 0, so are HPC's and AIR's (R67). -/
def State.heatersNeedBlower (s : State) : Prop :=
  s.loads.grants.blw = 0 → s.loads.grants.hpc = 0 ∧ s.loads.grants.air = 0

/-- A load has a grant exactly while it is STARTING or RUNNING, and an inhibited load has none (04, 4.3; R84). -/
def State.grantsFollowStates (s : State) : Prop :=
  ∀ l : Load,
    (s.loads.grants.get l ≠ 0 ↔
      (s.loads.records.get l).state = .starting ∨ (s.loads.records.get l).state = .running) ∧
    ((s.loads.records.get l).inhibited = true → s.loads.grants.get l = 0)

/-- A grant that R73 allows a load under a limit: 0; else a level power for a level load, or a multiple of the step
from the minimum to the limit. -/
def lawfulGrant (limit : Nat) : Load → Nat → Prop
  | .blw, g => g = 0 ∨ g = 120 ∨ g = 200 ∨ g = 300 ∨ g = 400
  | .scr, g => g = 0 ∨ g = 1200
  | .seat, g => g = 0 ∨ g = 150 ∨ g = 300
  | .hpc, g => g = 0 ∨ (800 ≤ g ∧ g ≤ limit ∧ g % 100 = 0)
  | .air, g => g = 0 ∨ (250 ≤ g ∧ g ≤ limit ∧ g % 250 = 0)
  | .bat, g => g = 0 ∨ (250 ≤ g ∧ g ≤ limit ∧ g % 250 = 0)

/-- Every grant is one that R73 allows, and the three limits are as R74 stores them. -/
def State.grantsLawful (s : State) : Prop :=
  (∀ l : Load, lawfulGrant (s.loads.limit l) l (s.loads.grants.get l)) ∧
  (800 ≤ s.loads.hpcLimit ∧ s.loads.hpcLimit ≤ 4500 ∧ s.loads.hpcLimit % 100 = 0) ∧
  (250 ≤ s.loads.airLimit ∧ s.loads.airLimit ≤ 6000 ∧ s.loads.airLimit % 250 = 0) ∧
  (250 ≤ s.loads.batLimit ∧ s.loads.batLimit ≤ 5000 ∧ s.loads.batLimit % 250 = 0)

/-- The counter runs exactly outside IDLE and reads 0 while it is stopped; a generation is in flight exactly in
PLANNING; while no grants of a run are live every grant is 0; and the tracker rests in IDLE and SCHEDULED and in
PLANNING of origin START (R1, R3, R25, R127; 01, 1.1). -/
def State.runTable (s : State) : Prop :=
  (s.run.counting = true ↔ s.run.state ≠ .idle) ∧
  (s.run.state = .idle → s.run.remaining = 0) ∧
  (s.run.state = .planning ↔ s.run.origin.isSome = true) ∧
  (s.plan.capture.isSome = true ↔ s.run.state = .planning) ∧
  (s.live = false → s.loads.grants = .all 0 ∧ s.track.tracker = .idle)

/-- The table of the envelope states (05, 5.3). -/
def State.envelopeTable (s : State) : Prop :=
  match s.power.state with
  | .none => s.power.latest = none ∧ s.power.holdTimer = none ∧ s.power.source = .fallback ∧ s.power.envLost = false
  | .live =>
    s.power.latest.isSome = true ∧ s.power.holdTimer.isSome = true ∧ s.power.source = .live ∧ s.power.envLost = false
  | .lost => s.power.latest.isSome = true ∧ s.power.source = .fallback ∧ s.power.envLost = true

/-- TRACK is set exactly in ON_TRACK, HELD has a hold cause and no other state has one, TRACKS is not set after a loss,
and the counts keep to their ranges (R129 to R134; 06, 6.3). -/
def State.trackerTable (s : State) : Prop :=
  (s.track.track = true ↔ s.track.tracker = .onTrack) ∧
  ((s.track.holdDoor = true ∨ s.track.holdSensor = true) ↔ s.track.tracker = .held) ∧
  (s.track.tracks = true → s.track.lossCount = 0) ∧
  (s.track.holdSensor = true → s.track.openLoop = true) ∧
  s.track.acquisition ≤ 11 ∧ s.track.lossCount ≤ 255

/-- Every field of every bank lies in its range (R141). -/
def State.banksInRange (s : State) : Prop := ∀ b : Fin 4, (s.store.banks.get b).inRange = true

/-- Each pending set is a subset of its port's mask, and no mask has bit 15 (R154, R159). -/
def State.pendingMasked (s : State) : Prop :=
  ∀ p : Port, s.router.pendings.get p &&& s.router.masks.get p = s.router.pendings.get p ∧
    (s.router.masks.get p).getLsbD 15 = false

/-- The run numbers of a list of entries, newest first, lead up to a next run number without gaps, with 65535
preceding 1 (R189, R21). -/
def numbersLeadTo (next : Nat) : List OutcomeEntry → Prop
  | [] => True
  | e :: rest => nextRunAfter e.run = next ∧ 1 ≤ e.run ∧ e.run ≤ 65535 ∧ numbersLeadTo e.run rest

/-- The log holds at most 8 entries, whose numbers lead up to the next run number; an interrupted-run record is held
only through a reset, has the next run number, and the part is in IDLE then (R21, R189, R192). -/
def State.logInOrder (s : State) : Prop :=
  s.log.entries.length ≤ 8 ∧ 1 ≤ s.run.nextRun ∧ s.run.nextRun ≤ 65535 ∧
  numbersLeadTo s.run.nextRun s.log.entries ∧
  (∀ e, s.log.interrupted = some e → e.run = s.run.nextRun ∧ s.resetting.isSome = true) ∧
  (s.resetting.isSome = true → s.run.state = .idle ∧ s.run.counting = false)

end Sys2Proof.Machine
end

