-- ==== Sys2Proof/Certificates/Slice0/Obligations.lean ====
section
/-! DEFINITION. The statements for the provers. A statement about a request takes the state to be `ready` at the port, so
that the request is served within the command (log 2, log 3); `answeredOk`, `refused` and `answered` change nothing but
the port's own buffers and the rotation pointer. -/

open Sys2Proof Sys2Proof.Machine

/-! ### The queue -/

/-- A step takes the command at the front of the queue. On an empty queue the part idles: the model's choice (log 5). -/
def Obligations.StepTakesFrontCommand : Prop :=
  (∀ (c : Instr) (rest : List Instr) (s : State),
    step { s with pending := c :: rest } = exec c { s with pending := rest }) ∧
  ∀ s : State, s.pending = [] → step s = .next s

/-- No command stops the part. That none touches the queue of the commands that wait, the resets among them, is the
model's choice (log 22, log 26). -/
def Obligations.EveryCommandAnswersNextState : Prop :=
  ∀ (c : Instr) (s : State), ∃ t, exec c s = .next t ∧ t.pending = s.pending

/-! ### Requests open to every port -/

/-- Status Query reports the state as it stands, with the port's own overflow flag, and clears that flag alone. -/
def Obligations.StatusQueryReportsAndClearsOverflow : Prop :=
  ∀ (p : Port) (s : State), s.ready p = true →
    let port := s.port.ports.get p
    let flags := s.track.track.toNat + 2 * s.track.tracks.toNat + 4 * s.track.sensorLost.toNat
      + 8 * s.power.envLost.toNat + 16 * port.overflow.toNat + 32 * s.track.openLoop.toNat
    exec (.statusQuery p) s = .next (answeredOk p 0x01
      ([s.run.state.code] ++ le32 s.run.remaining ++ [s.track.readiness.code] ++ le16 (signed16 s.track.margin)
        ++ [s.track.tracker.code, byteOf flags, byteOf s.store.active.val, s.loads.sequence]
        ++ le16 (sat16 s.power.budget))
      { s with port := { s.port with ports := s.port.ports.set p { port with overflow := false } } })

/-- Event Query reports the port's pending set and empties it, which releases the port's attention line alone. Event
Mask Set refuses a set with code 15; else it stores the mask and removes from the pending set the kinds that the mask
does not include. -/
def Obligations.EventRequestsKeepPendingSets : Prop :=
  ∀ (p : Port) (s : State), s.ready p = true →
    let emptied := answeredOk p 0x02 (le16 (s.router.pendings.get p))
      { s with router := { s.router with pendings := s.router.pendings.set p 0 } }
    exec (.eventQuery p) s = .next emptied ∧
    emptied.attention p = false ∧ (∀ q, q ≠ p → emptied.attention q = s.attention q) ∧
    ∀ mask : U16,
      (mask.getLsbD 15 = true → exec (.eventMaskSet p mask) s = .next (refused p 0x13 0x03 s)) ∧
      (mask.getLsbD 15 = false →
        let kept := s.router.pendings.get p &&& mask
        exec (.eventMaskSet p mask) s = .next (answeredOk p 0x03 (le16 mask ++ le16 kept)
          { s with router :=
            { masks := s.router.masks.set p mask, pendings := s.router.pendings.set p kept } }))

/-- Port Mode Set stores the mode of its own port: 0 for HOLD, 1 for PREPARED, and 2 or above is refused. -/
def Obligations.PortModeSetStoresMode : Prop :=
  ∀ (p : Port) (s : State), s.ready p = true →
    let stored := fun m => { s with port := { s.port with
      ports := s.port.ports.set p { s.port.ports.get p with mode := m } } }
    exec (.portModeSet p 0) s = .next (answeredOk p 0x04 [0] (stored .hold)) ∧
    exec (.portModeSet p 1) s = .next (answeredOk p 0x04 [1] (stored .prepared)) ∧
    ∀ mode : Byte, 2 ≤ mode.toNat → exec (.portModeSet p mode) s = .next (refused p 0x13 0x04 s)

/-- A claim SET adds the port to the claim set. The first claim on a load with a grant removes the grant in one issue,
with reason INHIBITED; any other SET issues nothing. CLEAR takes the port out of the claim set and TEST changes nothing;
neither issues a grant set. A load number of 6 or above is refused, and so is an action of 3 or above, whose frame
UNKNOWN_REQUEST carries: the model's choice (log 18). -/
def Obligations.InhibitClaimChangesClaimSet : Prop :=
  ∀ (p : Port) (load : Byte) (s : State), s.ready p = true →
    (∀ action : Byte, 3 ≤ action.toNat →
      exec (.unknownRequest p [0x05, 2, load, action]) s = .next (refused p 0x13 0x05 s)) ∧
    (6 ≤ load.toNat →
      exec (.inhibitClaimSet p load) s = .next (refused p 0x13 0x05 s) ∧
      exec (.inhibitClaimClear p load) s = .next (refused p 0x13 0x05 s) ∧
      exec (.inhibitClaimTest p load) s = .next (refused p 0x13 0x05 s)) ∧
    ∀ l : Load, load.toNat = l.number →
      let record := s.loads.records.get l
      let reply := fun claims : PerPort Bool => [load, flagByte (record.claims.get p),
        flagByte (record.claims.set p false).nonempty, portSetByte claims]
      let claimed := fun claims => { s with loads := { s.loads with
        records := s.loads.records.set l { record with claims := claims } } }
      let added := record.claims.set p true
      let removed := record.claims.set p false
      (record.inhibited = true ∨ s.loads.grants.get l = 0 →
        exec (.inhibitClaimSet p load) s = .next (answeredOk p 0x05 (reply added) (claimed added))) ∧
      (record.inhibited = false → s.loads.grants.get l ≠ 0 →
        exec (.inhibitClaimSet p load) s = .next (answeredOk p 0x05 (reply added)
          (issue (Handed.nothing.set l (some (0, .inhibited))) (claimed added)))) ∧
      exec (.inhibitClaimClear p load) s = .next (answeredOk p 0x05 (reply removed) (claimed removed)) ∧
      exec (.inhibitClaimTest p load) s = .next (answeredOk p 0x05 (reply record.claims) s)

/-- Slot Query reports an entry of the table; without a plan, and at or above the entry count, it is refused. -/
def Obligations.SlotQueryReportsEntry : Prop :=
  ∀ (p : Port) (index : Byte) (s : State), s.ready p = true →
    let table := (s.plan.plan.map PlanRecord.slots).getD []
    (table.length ≤ index.toNat → exec (.slotQuery p index) s = .next (refused p 0x13 0x07 s)) ∧
    ∀ e, table[index.toNat]? = some e →
      let planned := [index] ++ le16 (sat16 e.start) ++ le16 (sat16 e.stop) ++ le16 (signed16 e.trajEnd)
        ++ le16 (sat16 e.forecast)
      (e.actual = none →
        exec (.slotQuery p index) s = .next (answeredOk p 0x07
          (planned ++ [255, 0, 0, 0, 0, 0, 0, 0, 0, 0, 0, 0, 0, 0, 0x00, 0x80]) s)) ∧
      ∀ a, e.actual = some a →
        let flags := a.flags.deficit.toNat + 2 * a.flags.clamped.toNat + 4 * a.flags.shortfall.toNat
          + 8 * a.flags.noneGranted.toNat + 16 * a.flags.openLoop.toNat + 32 * a.flags.fallback.toNat
        exec (.slotQuery p index) s = .next (answeredOk p 0x07
          (planned ++ [byteOf (min a.sheds 254)] ++ le16s a.grants ++ [byteOf flags] ++ le16 (temp16 a.cabEnd)) s)

/-- Outcome Query reports the entry at an index, 0 being the newest; an index at or above the number of entries is
refused. -/
def Obligations.OutcomeQueryReportsEntry : Prop :=
  ∀ (p : Port) (index : Byte) (s : State), s.ready p = true →
    (s.log.entries.length ≤ index.toNat → exec (.outcomeQuery p index) s = .next (refused p 0x13 0x08 s)) ∧
    ∀ e, s.log.entries[index.toNat]? = some e →
      exec (.outcomeQuery p index) s = .next (answeredOk p 0x08
        (le16 (sat16 e.run) ++ [e.cause.code, byteOf e.bank.val] ++ le16 (temp16 e.tCab) ++ le16 (signed16 e.tSet)
          ++ [e.readiness.code, byteOf (e.tracks.toNat + 2 * e.envLost.toNat + 4 * e.sensorLost.toNat),
              byteOf e.lossCount, byteOf e.sheds]
          ++ le16 (sat16 e.duration) ++ le16s e.energy) s)

/-- Profile Field Read checks the bank, then the field, and reports the bank's value. Setting Read reports one of the
seventeen device-wide settings; an id of 17 or above is refused. -/
def Obligations.FieldAndSettingReadsReportValues : Prop :=
  ∀ (p : Port) (bank field id : Byte) (s : State), s.ready p = true →
    (4 ≤ bank.toNat → exec (.profileFieldRead p bank field) s = .next (refused p 0x13 0x09 s)) ∧
    (bank.toNat < 4 → 25 ≤ field.toNat →
      exec (.profileFieldRead p bank field) s = .next (refused p 0x15 0x09 s)) ∧
    (∀ (b : Fin 4) (f : Field), bank.toNat = b.val → Field.all[field.toNat]? = some f →
      exec (.profileFieldRead p bank field) s = .next (answeredOk p 0x09
        ([bank, field] ++ le16 (signed16 ((s.store.banks.get b).get f))) s)) ∧
    let cop := s.slots.cop
    let settings := [cop.c0, cop.c1, cop.c2, cop.c3, cop.c4, cop.c5, cop.c6, cop.c7,
      s.loads.hpcLimit, s.loads.airLimit, s.loads.batLimit, s.track.sensorTimeout, s.plan.slotLength, s.power.floor,
      s.run.unit.code, s.run.mode.code, s.run.period]
    (17 ≤ id.toNat → exec (.settingRead p id) s = .next (refused p 0x13 0x0C s)) ∧
    ∀ v, settings[id.toNat]? = some v →
      exec (.settingRead p id) s = .next (answeredOk p 0x0C ([id] ++ le16 (sat16 v)) s)

/-- Reset Cause Query reports the three flags, and Reset Cause Clear clears them. -/
def Obligations.ResetCauseQueryAndClear : Prop :=
  ∀ (p : Port) (s : State), s.ready p = true →
    let causes := s.log.causes
    exec (.resetCauseQuery p) s = .next (answeredOk p 0x0A
      [byteOf (causes.por.toNat + 2 * causes.pin.toNat + 4 * causes.soft.toNat)] s) ∧
    exec (.resetCauseClear p) s = .next (answeredOk p 0x0B []
      { s with log := { s.log with causes := ⟨false, false, false⟩ } })

/-- A frame is refused for the first check of R177 that it fails, with its first byte as the code answered, and changes
nothing but its port's buffers. The payload lengths and the roles are those of the catalogue. -/
def Obligations.FailedChecksRefuseFrame : Prop :=
  ∀ (p : Port) (c : Byte) (rest : List Byte) (s : State), s.ready p = true →
    ¬(s.run.state = .planning ∧ (c = 0x06 ∨ c = 0x60 ∨ c = 0x61 ∨ c = 0x62)) →
    let bytes := c :: rest
    let wellFormed := bytes.length ≤ 32 ∧ ∃ n payload, rest = n :: payload ∧ payload.length = n.toNat
    let catalogue : List (Nat × Nat) :=
      [(0x01, 0), (0x02, 0), (0x03, 2), (0x04, 1), (0x05, 2), (0x06, 0), (0x07, 1), (0x08, 1), (0x09, 2), (0x0A, 0),
       (0x0B, 0), (0x0C, 1), (0x20, 7), (0x21, 1), (0x22, 0), (0x40, 7), (0x41, 19), (0x42, 0), (0x43, 1), (0x44, 3),
       (0x45, 3), (0x46, 1), (0x60, 6), (0x61, 0), (0x62, 1), (0x63, 4), (0x64, 2), (0x65, 0)]
    let foreign := (0x20 ≤ c.toNat ∧ c.toNat ≤ 0x22 ∧ p ≠ .supply) ∨ (0x40 ≤ c.toNat ∧ c.toNat ≤ 0x46 ∧ p ≠ .climate)
      ∨ (0x60 ≤ c.toNat ∧ c.toNat ≤ 0x65 ∧ p ≠ .dispatch)
    let sent := exec (.unknownRequest p bytes) s
    (¬wellFormed → sent = .next (refused p 0x11 c s)) ∧
    (wellFormed → catalogue.lookup c.toNat = none → sent = .next (refused p 0x10 c s)) ∧
    (wellFormed → foreign → sent = .next (refused p 0x12 c s)) ∧
    (wellFormed → ¬foreign → ∀ n, catalogue.lookup c.toNat = some n → rest.length ≠ n + 1 →
      sent = .next (refused p 0x11 c s))

/-- A request of another port's role is refused with REFUSED_ROLE. The four requests that PLANNING holds are not served
there. -/
def Obligations.ForeignRoleRefused : Prop :=
  ∀ (p : Port) (s : State), s.ready p = true →
    (p ≠ .supply →
      (∀ l g k h, exec (.envelope p l g k h) s = .next (refused p 0x12 0x20 s)) ∧
      (∀ f, exec (.floorSet p f) s = .next (refused p 0x12 0x21 s)) ∧
      exec (.drawQuery p) s = .next (refused p 0x12 0x22 s)) ∧
    (p ≠ .climate →
      (∀ a b c d, exec (.sensorReport p a b c d) s = .next (refused p 0x12 0x40 s)) ∧
      (∀ q x d, exec (.actuatorStatus p q x d) s = .next (refused p 0x12 0x41 s)) ∧
      exec (.grantQuery p) s = .next (refused p 0x12 0x42 s) ∧
      (∀ l, exec (.clearFault p l) s = .next (refused p 0x12 0x43 s)) ∧
      (∀ i v, exec (.copEntryWrite p i v) s = .next (refused p 0x12 0x44 s)) ∧
      (∀ l v, exec (.loadLimitSet p l v) s = .next (refused p 0x12 0x45 s)) ∧
      (∀ v, exec (.sensorTimeoutSet p v) s = .next (refused p 0x12 0x46 s))) ∧
    (p ≠ .dispatch →
      (s.run.state ≠ .planning →
        (∀ v u m q, exec (.departureSet p v u m q) s = .next (refused p 0x12 0x60 s)) ∧
        exec (.cancel p) s = .next (refused p 0x12 0x61 s) ∧
        (∀ b, exec (.selectBank p b) s = .next (refused p 0x12 0x62 s))) ∧
      (∀ b f v, exec (.profileFieldWrite p b f v) s = .next (refused p 0x12 0x63 s)) ∧
      (∀ v, exec (.slotLengthSet p v) s = .next (refused p 0x12 0x64 s)) ∧
      exec (.softReset p) s = .next (refused p 0x12 0x65 s))

/-! ### SUPPLY: the envelope, the budget and the floor -/

/-- An Envelope replaces the latest envelope and loads the hold timer. In NONE and LIVE it makes the budget live and
computes it from the arrival, and a budget below the grants sheds in the same event; in LOST the budget stays. A link
code of 2 or above is refused. -/
def Obligations.EnvelopeArrivalSetsBudget : Prop :=
  ∀ (link : Byte) (grid pack hold : U16) (s : State), s.ready .supply = true →
    let sent := exec (.envelope .supply link grid pack hold) s
    let taken := if hold.toNat = 0 then 1 else min hold.toNat 600
    let latest : Envelope := ⟨decide (link.toNat = 1), grid.toNat, pack.toNat, taken⟩
    let offered := (if link.toNat = 1 then grid.toNat else 0) + (if s.inForce.allowPack = 0 then 0 else pack.toNat)
    let budget := offered - s.inForce.wRes
    let live := { s with power := { s.power with
      latest := some latest, holdTimer := some taken, state := .live, source := .live, budget := budget } }
    let reply := [1, 0] ++ le16 (sat16 budget)
    (2 ≤ link.toNat → sent = .next (refused .supply 0x13 0x20 s)) ∧
    (link.toNat < 2 → s.power.state ≠ .lost → s.loads.grants.sum ≤ budget →
      sent = .next (answeredOk .supply 0x20 reply live)) ∧
    (link.toNat < 2 → s.power.state ≠ .lost → budget < s.loads.grants.sum →
      sent = .next (answeredOk .supply 0x20 reply (shed s.inForce live))) ∧
    (link.toNat < 2 → s.power.state = .lost →
      sent = .next (answeredOk .supply 0x20 ([2, s.power.source.code] ++ le16 (sat16 s.power.budget))
        { s with power := { s.power with latest := some latest, holdTimer := some taken } }))

/-- A shed lowers the grants in the reverse of the allocation order of a profile until their sum is within the budget. A
load is reached with the excess that the loads after it in that order have left: a modulating load goes to the largest
multiple of its step at or below its grant less the excess, or to 0 where that is below its minimum, and a level load
goes to 0. It makes one grant set, counts in the open slot and in the run's total, and raises SHED. -/
def Obligations.ShedLowersGrantsInReverseOrder : Prop :=
  ∀ (p : Profile) (s : State), s.grantsFollowStates → s.heatersNeedBlower → s.power.budget < s.loads.grants.sum →
    let t := shed p s
    t.loads.grants.sum ≤ s.power.budget ∧
    (∀ l : Load,
      let old := s.loads.grants.get l
      let excess := (PerLoad.ofFn fun m =>
        if p.level l < p.level m ∨ (p.level l = p.level m ∧ l.number < m.number) then t.loads.grants.get m
        else s.loads.grants.get m).sum - s.power.budget
      let lowered := if l.modulating then
          if (old - excess) / l.step * l.step < l.minimum then 0 else (old - excess) / l.step * l.step
        else 0
      t.loads.grants.get l = (if excess = 0 ∨ old = 0 then old else lowered) ∧
      t.loads.reasons.get l = (if excess = 0 ∨ old = 0 then s.loads.reasons.get l else .shed)) ∧
    t.loads.sequence = s.loads.sequence + 1 ∧
    t.log = { s.log with acc := { s.log.acc with sheds := s.log.acc.sheds + 1 } } ∧
    t.router = recorded [.grantChanged, .shed] s.router ∧
    (s.slots.openSlot = none → t.plan = s.plan) ∧
    (∀ n, s.slots.openSlot = some n → ∀ r, s.plan.plan = some r → ∀ e, r.slots[n]? = some e →
      ∀ a, e.actual = some a → ∃ r', t.plan.plan = some r' ∧
        r'.slots[n]? = some { e with actual := some { a with sheds := a.sheds + 1 } }) ∧
    t.run = s.run ∧ t.slots = s.slots ∧ t.power = s.power ∧ t.track = s.track ∧ t.store = s.store ∧ t.port = s.port

/-- Floor Set stores the floor, at most 3. A lowering removes, in one grant set with reason FLOOR, the grants of the
loads whose level in the profile in force is above the new floor; a raise, an equal value, and a lowering that finds no
such grant issue nothing. -/
def Obligations.FloorSetRemovesGrantsAbove : Prop :=
  ∀ (floor : Byte) (s : State), s.ready .supply = true →
    let new := min floor.toNat 3
    let stored := { s with power := { s.power with floor := new } }
    let sent := exec (.floorSet .supply floor) s
    (s.power.floor ≤ new ∨ (∀ l, s.loads.grants.get l = 0 ∨ s.inForce.level l ≤ new) →
      sent = .next (answeredOk .supply 0x21 [byteOf new] stored)) ∧
    (new < s.power.floor → (∃ l, s.loads.grants.get l ≠ 0 ∧ new < s.inForce.level l) →
      sent = .next (answeredOk .supply 0x21 [byteOf new]
        (issue (.ofFn fun l => if s.loads.grants.get l ≠ 0 ∧ new < s.inForce.level l then some (0, .floor) else none)
          stored)))

/-- Draw Query reports the budget, its source, the committed draw, the measured total, the sum of the grants, the run
state and ENV_LOST. The committed draw takes for each load the larger of the current and the acknowledged grant, while
the acknowledged set is not current. Grant Query reports the current grant set and the forced-off count. -/
def Obligations.DrawAndGrantQueriesReport : Prop :=
  ∀ s : State,
    let b := s.loads
    let grants := b.grants
    let acked := b.ackGrants
    let committed :=
      if b.ackCurrent then grants.blw + grants.hpc + grants.air + grants.scr + grants.seat + grants.bat
      else max grants.blw acked.blw + max grants.hpc acked.hpc + max grants.air acked.air + max grants.scr acked.scr
        + max grants.seat acked.seat + max grants.bat acked.bat
    (s.ready .supply = true → exec (.drawQuery .supply) s = .next (answeredOk .supply 0x22
      (le16 (sat16 s.power.budget) ++ [s.power.source.code] ++ le16 (sat16 committed) ++ le16 (sat16 s.power.measured)
        ++ le16 (sat16 (grants.blw + grants.hpc + grants.air + grants.scr + grants.seat + grants.bat))
        ++ [s.run.state.code, flagByte s.power.envLost]) s)) ∧
    (s.ready .climate = true → exec (.grantQuery .climate) s = .next (answeredOk .climate 0x42
      ([b.sequence] ++ le16 (sat16 grants.blw) ++ le16 (sat16 grants.hpc) ++ le16 (sat16 grants.air)
        ++ le16 (sat16 grants.scr) ++ le16 (sat16 grants.seat) ++ le16 (sat16 grants.bat)
        ++ [b.reasons.blw.code, b.reasons.hpc.code, b.reasons.air.code, b.reasons.scr.code, b.reasons.seat.code,
            b.reasons.bat.code, byteOf b.forcedOff]) s))

/-! ### The issue of a grant set -/

/-- An issue replaces the handed grants and reasons, removes the grant of a load that may not run and of a heater without
the blower, advances the sequence, moves the load states, counts a forced removal of the compressor, makes the
acknowledged set stop being current, and raises GRANT_CHANGED. -/
def Obligations.IssueFormsGrantSet : Prop :=
  ∀ (handed : Handed) (s : State),
    let t := issue handed s
    let first := fun l => (handed.get l).getD (s.loads.grants.get l, s.loads.reasons.get l)
    let second := fun l =>
      if (first l).1 = 0 then first l
      else if (s.loads.records.get l).claims.nonempty then (0, Reason.inhibited)
      else if (s.loads.records.get l).state = .faulted then (0, Reason.faulted)
      else if (s.loads.records.get l).state = .cooldown then (0, Reason.cooldown)
      else first l
    let third := fun l =>
      if (l = .hpc ∨ l = .air) ∧ (second .blw).1 = 0 ∧ (second l).1 ≠ 0 then (0, Reason.blower) else second l
    let hpc := s.loads.records.hpc
    (∀ l,
      (t.loads.grants.get l, t.loads.reasons.get l) = third l ∧
      t.loads.records.get l =
        (let r := s.loads.records.get l
         if r.state = .off ∧ (third l).1 ≠ 0 then { r with state := .starting, age := 0 }
         else if r.state = .starting ∧ (third l).1 = 0 then { r with state := .off, age := 0 }
         else if r.state = .running ∧ (third l).1 = 0 then
           { r with state := if l = .hpc then .cooldown else .off, age := 0 }
         else r)) ∧
    t.loads.sequence = s.loads.sequence + 1 ∧
    t.loads.forcedOff =
      (if hpc.state = .running ∧ hpc.age < 120 ∧ s.loads.grants.hpc ≠ 0 ∧ t.loads.grants.hpc = 0 then
        min 255 (s.loads.forcedOff + 1) else s.loads.forcedOff) ∧
    t.loads.ackCurrent = false ∧ t.loads.ackGrants = s.loads.ackGrants ∧
    (t.loads.hpcLimit, t.loads.airLimit, t.loads.batLimit) =
      (s.loads.hpcLimit, s.loads.airLimit, s.loads.batLimit) ∧
    t.router = recorded [.grantChanged] s.router ∧ t.run = s.run ∧ t.plan = s.plan ∧ t.slots = s.slots ∧
    t.power = s.power ∧ t.track = s.track ∧ t.store = s.store ∧ t.port = s.port ∧ t.log = s.log

/-! ### CLIMATE: sensors, loads and settings -/

/-- A Sensor Report stores the temperatures it carries, clamped to their range, and the door state; one with a cabin
temperature loads the sensor timer, marks the open slot and ends open loop, which removes the hold cause SENSOR. The
tracker at rest takes no account of it. With the door OPEN the tracker is HELD with cause DOOR and without TRACK, and no
loss is counted. With the door CLOSED the cause DOOR is removed; where a cause remains the tracker stays HELD, and where
none does it resumes in ACQ1 with the count at 0, and judges the report that carries a cabin temperature. A report without
one is not judged. A door flag of 2 or above is refused. -/
def Obligations.SensorReportStoresValues : Prop :=
  ∀ (tCab tOut tPack : U16) (door : Byte) (s : State), s.ready .climate = true →
    let sent := exec (.sensorReport .climate tCab tOut tPack door) s
    let received := fun w : U16 => if w = 0x8000 then none else some (max (-400) (min 600 w.toInt))
    let cabin := (received tCab).isSome
    let returns := cabin && s.track.openLoop
    let sensorLeft := s.track.holdSensor && !returns
    let stored := { s.track with
      tCab := if cabin then received tCab else s.track.tCab
      tOut := if (received tOut).isSome then received tOut else s.track.tOut
      tPack := if (received tPack).isSome then received tPack else s.track.tPack
      doorOpen := decide (door.toNat = 1)
      sensorTimer := if cabin then some s.track.sensorTimeout else s.track.sensorTimer
      openLoop := s.track.openLoop && !cabin
      holdSensor := sensorLeft }
    let resumed := { stored with tracker := .acq1, acquisition := 0, holdDoor := false }
    let slots := { s.slots with reportSeen := s.slots.reportSeen || (cabin && s.slots.openSlot.isSome) }
    let flags := fun t : TrackBlock => byteOf (t.track.toNat + 2 * t.tracks.toNat + 4 * t.sensorLost.toNat)
    let answer := fun t : TrackBlock => Host.Outcome.next
      (answeredOk .climate 0x40 [t.tracker.code, t.readiness.code, flags t] { s with track := t, slots := slots })
    let follows := s.track.tracker = .acq1 ∨ s.track.tracker = .acq2 ∨ s.track.tracker = .onTrack
    (2 ≤ door.toNat → sent = .next (refused .climate 0x13 0x40 s)) ∧
    (door.toNat < 2 → s.track.tracker = .idle → sent = answer stored) ∧
    (door = 1 → follows → sent = answer { stored with tracker := .held, holdDoor := true, track := false }) ∧
    (door = 1 → s.track.tracker = .held →
      let restarts := returns && !s.track.holdDoor
      sent = answer { stored with
        holdDoor := true
        acquisition := if restarts then 0 else s.track.acquisition
        track := if restarts then false else s.track.track }) ∧
    (door = 0 → cabin = false → follows → sent = answer stored) ∧
    (door = 0 → s.track.tracker = .held →
      (sensorLeft = true → sent = answer { stored with holdDoor := false }) ∧
      (sensorLeft = false → cabin = false → sent = answer resumed) ∧
      (sensorLeft = false → ∀ r, s.plan.plan = some r → ∀ cab, received tCab = some cab →
        let near := (cab - r.traj s.run.remaining).natAbs ≤ r.profile.wTrack
        sent = answer { resumed with acquisition := if near then 1 else 0 }))

/-- A report with a cabin temperature and the door closed is judged by its deviation from the trajectory of the plan in
force: eight in a row within the window lead from ACQ1 to ACQ2, and twelve more acquire the track, which sets TRACK,
and TRACKS when there has been no loss; a report outside the window starts again. In ON_TRACK twice the window holds. -/
def Obligations.ReportJudgedAgainstTrajectory : Prop :=
  ∀ (tCab tOut tPack : U16) (cab : Int) (r : PlanRecord) (s : State), s.ready .climate = true →
    receiveTemp tCab = some cab → s.plan.plan = some r → s.track.openLoop = false → s.track.tracker ≠ .idle →
    s.track.tracker ≠ .held →
    let deviation := (cab - r.traj s.run.remaining).natAbs
    let near := deviation ≤ r.profile.wTrack
    let count := s.track.acquisition
    let acquires := s.track.tracker = .acq2 ∧ near ∧ 12 ≤ count + 1
    (s.track.tracker = .onTrack → deviation ≤ 2 * r.profile.wTrack) →
    let stage := if s.track.tracker = .onTrack then (.onTrack, count)
      else if ¬near then (.acq1, 0)
      else if s.track.tracker = .acq1 then (if count + 1 < 8 then (.acq1, count + 1) else (.acq2, 0))
      else if count + 1 < 12 then (TrackerState.acq2, count + 1) else (.onTrack, 0)
    ∃ t, exec (.sensorReport .climate tCab tOut tPack 0) s = .next t ∧
      t.track = { s.track with
        tCab := some cab
        tOut := (receiveTemp tOut).or s.track.tOut
        tPack := (receiveTemp tPack).or s.track.tPack
        doorOpen := false
        sensorTimer := some s.track.sensorTimeout
        tracker := stage.1
        acquisition := stage.2
        track := if acquires then true else s.track.track
        tracks := if acquires ∧ s.track.lossCount = 0 then true else s.track.tracks } ∧
      t.slots = { s.slots with reportSeen := s.slots.reportSeen || s.slots.openSlot.isSome } ∧
      t.router = (if acquires then recorded [.trackAcquired] s.router else s.router) ∧
      t.run = s.run ∧ t.plan = s.plan ∧ t.loads = s.loads ∧ t.power = s.power ∧ t.store = s.store ∧ t.log = s.log

/-- In ON_TRACK a report outside twice the window loses the track: TRACK and TRACKS are cleared, the loss count rises,
TRACK_LOST is raised and acquisition begins again. Where the run profile aborts on loss and the limit is reached, the
run ends with cause TRACK_LOST in IDLE, and the frames that the run end releases are served after it. -/
def Obligations.ReportOutsideWindowLosesTrack : Prop :=
  ∀ (tCab tOut tPack : U16) (cab : Int) (r : PlanRecord) (s : State), s.ready .climate = true →
    receiveTemp tCab = some cab → s.plan.plan = some r → s.track.openLoop = false → s.track.tracker = .onTrack →
    2 * r.profile.wTrack < (cab - r.traj s.run.remaining).natAbs → s.inRun = true →
    let losses := min 255 (s.track.lossCount + 1)
    let aborts := r.profile.abortOnLoss = 1 ∧ r.profile.lossLimit ≤ losses
    ∃ t, exec (.sensorReport .climate tCab tOut tPack 0) s = .next (serveReleased s t) ∧
      t.track.track = false ∧ t.track.tracks = false ∧ t.track.lossCount = losses ∧
      (¬aborts → serveReleased s t = t ∧
        t.track = { s.track with
          tCab := some cab
          tOut := (receiveTemp tOut).or s.track.tOut
          tPack := (receiveTemp tPack).or s.track.tPack
          doorOpen := false
          sensorTimer := some s.track.sensorTimeout
          tracker := .acq1
          acquisition := 0
          track := false
          tracks := false
          lossCount := losses } ∧
        t.slots = { s.slots with reportSeen := s.slots.reportSeen || s.slots.openSlot.isSome } ∧
        t.router = recorded [.trackLost] s.router ∧
        t.run = s.run ∧ t.plan = s.plan ∧ t.loads = s.loads ∧ t.power = s.power ∧ t.store = s.store ∧
        t.log = s.log) ∧
      (aborts →
        t.track.tracker = .idle ∧ t.run.state = .idle ∧ t.run.counting = false ∧ t.run.remaining = 0 ∧
        t.run.nextRun = nextRunAfter s.run.nextRun ∧ t.run.held = .all false ∧ t.run.origin = none ∧
        t.plan.capture = none ∧ t.loads.grants = .all 0 ∧ t.track.readiness = .none ∧
        ∃ e, t.log.entries = (e :: s.log.entries).take 8 ∧ e.run = s.run.nextRun ∧ e.cause = .trackLost ∧
          e.tCab = some cab ∧ e.readiness = s.track.readiness)

/-- An Actuator Status in which no load enters FAULTED: a RUNNING report ends a start, no other report moves a load, and
the acknowledgement and the measured total are taken; the overdraw count follows the report when it names the current
sequence. A code of 4 or above refuses it whole. -/
def Obligations.ActuatorStatusTakesReport : Prop :=
  ∀ (sequence : Byte) (states : PerLoad Byte) (draws : PerLoad U16) (s : State), s.ready .climate = true →
    let sent := exec (.actuatorStatus .climate sequence states draws) s
    let current := decide (sequence = s.loads.sequence)
    let faults := fun l =>
      (states.get l = 3 ∧ (s.loads.records.get l).state ≠ .faulted) ∨
      (states.get l = 0 ∧ (s.loads.records.get l).state = .running ∧ s.loads.grants.get l ≠ 0 ∧ current = true)
    let records := PerLoad.ofFn fun l =>
      if states.get l = 2 ∧ (s.loads.records.get l).state = .starting then
        { s.loads.records.get l with state := .running, age := 0 }
      else s.loads.records.get l
    let total := draws.blw.toNat + draws.hpc.toNat + draws.air.toNat + draws.scr.toNat + draws.seat.toNat
      + draws.bat.toNat
    let counts := current = true ∧ s.power.budget * 105 / 100 < total
    let overdraw := if counts then s.power.overdraw + 1 else if current then 0 else s.power.overdraw
    let loads := { s.loads with
      records := records
      ackGrants := if current then s.loads.grants else s.loads.ackGrants
      ackCurrent := current || s.loads.ackCurrent }
    ((∃ l, 4 ≤ (states.get l).toNat) → sent = .next (refused .climate 0x13 0x41 s)) ∧
    ((∀ l, (states.get l).toNat < 4) → (∀ l, ¬faults l) →
      (counts → s.power.overdraw + 1 < 3) →
      sent = .next (answeredOk .climate 0x41
        ([flagByte current, s.loads.sequence] ++ le16 (sat16 loads.committed))
        { s with loads := loads, power := { s.power with measured := total, overdraw := overdraw } }))

/-- Loads enter FAULTED together at an Actuator Status: those reported as FAULT with cause REPORTED, and those RUNNING
with a grant that a report of the current sequence gives as OFF with cause DROPPED; the other reports, the
acknowledgement and the draws are taken beside them. One grant set removes the grants with reason FAULTED, and
LOAD_FAULT is raised once. The minimum-on test looks to the compressor's record before the report, as the model
deduces (log 14). Where the report is the third counting one, the overdraw removal follows with a grant set of its
own. -/
def Obligations.ReportedFaultRemovesGrants : Prop :=
  ∀ (sequence : Byte) (states : PerLoad Byte) (draws : PerLoad U16) (s : State), s.ready .climate = true →
    let sent := exec (.actuatorStatus .climate sequence states draws) s
    let current := decide (sequence = s.loads.sequence)
    let faults := fun l =>
      (states.get l = 3 ∧ (s.loads.records.get l).state ≠ .faulted) ∨
      (states.get l = 0 ∧ (s.loads.records.get l).state = .running ∧ s.loads.grants.get l ≠ 0 ∧ current = true)
    (∀ l, (states.get l).toNat < 4) → (∃ l, faults l) →
    let taken := { s with loads := { s.loads with
      records := .ofFn fun l =>
        let r := s.loads.records.get l
        if faults l then
          { r with state := .faulted, age := 0, cause := some (if states.get l = 3 then .reported else .dropped) }
        else if states.get l = 2 ∧ r.state = LoadState.starting then { r with state := .running, age := 0 }
        else r
      ackGrants := if current then s.loads.grants else s.loads.ackGrants
      ackCurrent := current || s.loads.ackCurrent } }
    let minimumOn := s.loads.records.hpc.state = .running ∧ s.loads.records.hpc.age < 120
    let issued := fun (handed : Handed) (b : LoadBlock) =>
      let new := (issue handed { s with loads := b }).loads
      { new with forcedOff := if minimumOn ∧ b.grants.hpc ≠ 0 ∧ new.grants.hpc = 0 then min 255 (b.forcedOff + 1)
        else b.forcedOff }
    let loads := issued (.ofFn fun l => if faults l then some (0, .faulted) else none) taken.loads
    let total := draws.blw.toNat + draws.hpc.toNat + draws.air.toNat + draws.scr.toNat + draws.seat.toNat
      + draws.bat.toNat
    let counts := current = true ∧ s.power.budget * 105 / 100 < total
    let overdraw := if counts then s.power.overdraw + 1 else if current then 0 else s.power.overdraw
    (∀ l, faults l → loads.grants.get l = 0 ∧ loads.reasons.get l = .faulted) ∧
    ((counts → s.power.overdraw + 1 < 3) →
      sent = .next (answeredOk .climate 0x41
        ([flagByte current, s.loads.sequence + 1] ++ le16 (sat16 loads.committed))
        { s with
          loads := loads
          power := { s.power with measured := total, overdraw := overdraw }
          router := recorded [.grantChanged, .loadFault] s.router })) ∧
    (counts → 2 ≤ s.power.overdraw → ∃ t, sent = .next t ∧
      t.power = { s.power with measured := total, overdraw := 0 } ∧
      t.router = recorded [.grantChanged, .loadFault, .overdraw] s.router ∧
      (∀ l, loads.grants.get l ≠ 0 →
        (∀ m, loads.grants.get m ≠ 0 → s.inForce.level m < s.inForce.level l ∨
          (s.inForce.level m = s.inForce.level l ∧ m.number ≤ l.number)) →
        t.loads = issued (Handed.nothing.set l (some (0, .shed))) loads) ∧
      (loads.grants = .all 0 → t.loads = loads) ∧
      t.run = s.run ∧ t.plan = s.plan ∧ t.slots = s.slots ∧ t.track = s.track ∧ t.store = s.store ∧ t.log = s.log)

/-- The third counting report makes an overdraw removal: the last load in allocation order with a grant loses it with
reason SHED in one grant set, OVERDRAW is raised, and the count becomes 0. Without a grant there is no grant set. The
report's starts and its acknowledgement are taken before it, whatever states it gives, as long as no load enters FAULTED.
The minimum-on test looks to the compressor's record before the report, as the model deduces (log 14). -/
def Obligations.ThirdOverdrawRemovesLastGrant : Prop :=
  ∀ (states : PerLoad Byte) (draws : PerLoad U16) (s : State), s.ready .climate = true → 2 ≤ s.power.overdraw →
    let total := draws.blw.toNat + draws.hpc.toNat + draws.air.toNat + draws.scr.toNat + draws.seat.toNat
      + draws.bat.toNat
    s.power.budget * 105 / 100 < total →
    (∀ l, (states.get l).toNat < 4) →
    (∀ l, ¬((states.get l = 3 ∧ (s.loads.records.get l).state ≠ .faulted) ∨
      (states.get l = 0 ∧ (s.loads.records.get l).state = .running ∧ s.loads.grants.get l ≠ 0))) →
    let p := s.inForce
    let taken := { s.loads with
      records := .ofFn fun l =>
        let r := s.loads.records.get l
        if states.get l = 2 ∧ r.state = LoadState.starting then { r with state := .running, age := 0 } else r
      ackGrants := s.loads.grants
      ackCurrent := true }
    let minimumOn := s.loads.records.hpc.state = .running ∧ s.loads.records.hpc.age < 120
    ∃ t, exec (.actuatorStatus .climate s.loads.sequence states draws) s = .next t ∧
      t.power = { s.power with measured := total, overdraw := 0 } ∧
      (∀ l, s.loads.grants.get l ≠ 0 →
        (∀ m, s.loads.grants.get m ≠ 0 →
          p.level m < p.level l ∨ (p.level m = p.level l ∧ m.number ≤ l.number)) →
        let new := (issue (Handed.nothing.set l (some (0, .shed))) { s with loads := taken }).loads
        t.loads = { new with
          forcedOff := if minimumOn ∧ s.loads.grants.hpc ≠ 0 ∧ new.grants.hpc = 0 then min 255 (s.loads.forcedOff + 1)
            else s.loads.forcedOff } ∧
        t.router = recorded [.grantChanged, .overdraw] s.router) ∧
      (s.loads.grants = .all 0 → t.loads = taken ∧ t.router = recorded [.overdraw] s.router) ∧
      t.run = s.run ∧ t.plan = s.plan ∧ t.slots = s.slots ∧ t.track = s.track ∧ t.store = s.store ∧ t.log = s.log

/-- Clear Fault takes a FAULTED load to OFF, and HPC to COOLDOWN, and reports the cause that it clears; it issues nothing.
A load that is not FAULTED is refused with REFUSED_STATE, and a load number of 6 or above with REFUSED_RANGE. -/
def Obligations.ClearFaultRestoresLoad : Prop :=
  ∀ (load : Byte) (s : State), s.ready .climate = true →
    let sent := exec (.clearFault .climate load) s
    (6 ≤ load.toNat → sent = .next (refused .climate 0x13 0x43 s)) ∧
    ∀ l : Load, load.toNat = l.number →
      let r := s.loads.records.get l
      (r.state ≠ .faulted → sent = .next (refused .climate 0x14 0x43 s)) ∧
      ∀ cause, r.state = .faulted → r.cause = some cause →
        let state := if l = .hpc then LoadState.cooldown else .off
        sent = .next (answeredOk .climate 0x43 [load, if l = .hpc then 3 else 0, cause.code]
          { s with loads := { s.loads with
            records := s.loads.records.set l { r with state := state, age := 0, cause := none } } })

/-- COP Entry Write and Sensor Timeout Set clamp and store their value, and act on nothing else. -/
def Obligations.CopEntryAndSensorTimeoutStored : Prop :=
  ∀ (index timeout : Byte) (value : U16) (s : State), s.ready .climate = true →
    let cop := max 100 (min 500 value.toNat)
    let seconds := max 2 (min 30 timeout.toNat)
    (8 ≤ index.toNat → exec (.copEntryWrite .climate index value) s = .next (refused .climate 0x13 0x44 s)) ∧
    (index.toNat < 8 →
      exec (.copEntryWrite .climate index value) s = .next (answeredOk .climate 0x44 ([index] ++ le16 (sat16 cop))
        { s with slots := { s.slots with cop := s.slots.cop.set index.toNat cop } })) ∧
    exec (.sensorTimeoutSet .climate timeout) s = .next (answeredOk .climate 0x46 [byteOf seconds]
      { s with track := { s.track with sensorTimeout := seconds } })

/-- Load Limit Set clamps the limit of HPC, AIR or BAT, rounds it down to the load's step and stores it. A limit below the
load's grant cuts the grant to it in one grant set, and a reason GRANTED becomes BUDGET. -/
def Obligations.LoadLimitSetCutsGrant : Prop :=
  ∀ (load : Byte) (limit : U16) (s : State), s.ready .climate = true →
    let sent := exec (.loadLimitSet .climate load limit) s
    (6 ≤ load.toNat → sent = .next (refused .climate 0x13 0x45 s)) ∧
    ∀ l : Load, load.toNat = l.number →
      (l.modulating = false → sent = .next (refused .climate 0x13 0x45 s)) ∧
      (l.modulating = true →
        let stored := max l.minimum (min l.siliconMax limit.toNat) / l.step * l.step
        let reply := [load] ++ le16 (sat16 stored)
        let limited := { s with loads := { s.loads with
          hpcLimit := if l = .hpc then stored else s.loads.hpcLimit
          airLimit := if l = .air then stored else s.loads.airLimit
          batLimit := if l = .bat then stored else s.loads.batLimit } }
        let reason := if s.loads.reasons.get l = .granted then Reason.budget else s.loads.reasons.get l
        (s.loads.grants.get l ≤ stored → sent = .next (answeredOk .climate 0x45 reply limited)) ∧
        (stored < s.loads.grants.get l →
          sent = .next (answeredOk .climate 0x45 reply
            (issue (Handed.nothing.set l (some (stored, reason))) limited))))

/-! ### The run: departures, banks, replans and run ends -/

/-- In PLANNING a Departure Set, a Select Bank, a Replan or a Cancel is held at its port, whatever the port's role: the
frame is PENDING with its BUSY response, and nothing else changes. -/
def Obligations.RunRequestsHeldInPlanning : Prop :=
  ∀ (p : Port) (s : State), s.ready p = true → s.run.state = .planning →
    let held := fun bytes : List Byte => { s with
      port := { s.port with ports := s.port.ports.set p { s.port.ports.get p with
        rx := .pending ⟨bytes, false⟩, response := [0x01, bytes.headD 0, 0x00] } }
      run := { s.run with held := s.run.held.set p true } }
    exec (.replan p) s = .next (held [0x06, 0]) ∧
    exec (.cancel p) s = .next (held [0x61, 0]) ∧
    (∀ b, exec (.selectBank p b) s = .next (held [0x62, 1, b])) ∧
    (∀ v u m q, exec (.departureSet p v u m q) s = .next (held ([0x60, 6] ++ le16 v ++ [u, m] ++ le16 q)))

/-- An accepted Departure Set loads and starts the counter and stores the unit, the mode and, in REPEAT, the clamped
period; in IDLE and SCHEDULED a schedule check follows, in CONDITIONING and MAINTAIN a generation of origin REPLAN, or a
suspension beyond 48 slots. A value of 0 and an unknown unit or mode are refused. -/
def Obligations.DepartureSetLoadsCounter : Prop :=
  ∀ (value : U16) (unit mode : Byte) (period : U16) (s : State), s.ready .dispatch = true → s.run.held = .all false →
    s.run.state ≠ .planning →
    let sent := exec (.departureSet .dispatch value unit mode period) s
    let loaded := { s with run := { s.run with
      state := if s.run.state = .idle then .scheduled else s.run.state
      remaining := value.toNat * (if unit.toNat = 1 then 60 else 1)
      counting := true
      unit := if unit.toNat = 1 then .coarse else .fine
      mode := if mode.toNat = 1 then .repeating else .oneShot
      period := if mode.toNat = 1 then max 60 (min 1440 period.toNat) else s.run.period } }
    let answer := fun t : State => Host.Outcome.next
      (answeredOk .dispatch 0x60 ([t.run.state.code] ++ le32 t.run.remaining) t)
    (value.toNat = 0 ∨ 2 ≤ unit.toNat ∨ 2 ≤ mode.toNat → sent = .next (refused .dispatch 0x13 0x60 s)) ∧
    (value.toNat ≠ 0 → unit.toNat < 2 → mode.toNat < 2 →
      (s.run.state = .idle ∨ s.run.state = .scheduled → sent = answer (scheduleCheck loaded)) ∧
      (s.run.state = .conditioning ∨ s.run.state = .maintain →
        loaded.run.remaining ≤ 48 * s.plan.slotLength → sent = answer (startGeneration .replan loaded)) ∧
      (s.run.state = .conditioning ∨ s.run.state = .maintain →
        48 * s.plan.slotLength < loaded.run.remaining → sent = answer (suspend loaded)))

/-- Select Bank makes a bank the active bank before what follows: in IDLE the budget is computed from it, in SCHEDULED a
schedule check follows as well, and in CONDITIONING and MAINTAIN a replan copies it. A number of 4 or above is
refused. -/
def Obligations.SelectBankActivatesBank : Prop :=
  ∀ (bank : Byte) (s : State), s.ready .dispatch = true → s.run.held = .all false → s.run.state ≠ .planning →
    let sent := exec (.selectBank .dispatch bank) s
    (4 ≤ bank.toNat → sent = .next (refused .dispatch 0x13 0x62 s)) ∧
    ∀ b : Fin 4, bank.toNat = b.val →
      let selected := { s with store := { s.store with active := b } }
      let answer := fun t : State => Host.Outcome.next
        (answeredOk .dispatch 0x62 ([bank, t.run.state.code] ++ le32 t.run.remaining) t)
      (s.run.state = .idle → sent = answer (computeBudget (s.store.banks.get b) selected)) ∧
      (s.run.state = .scheduled →
        sent = answer (scheduleCheck (computeBudget (s.store.banks.get b) selected))) ∧
      (s.run.state = .conditioning ∨ s.run.state = .maintain → s.run.remaining ≤ 48 * s.plan.slotLength →
        sent = answer (startGeneration .replan selected)) ∧
      (s.run.state = .conditioning ∨ s.run.state = .maintain → 48 * s.plan.slotLength < s.run.remaining →
        sent = answer (suspend selected))

/-- Replan, from any port, is refused in IDLE, checks the schedule in SCHEDULED, and in CONDITIONING and MAINTAIN starts a
generation of origin REPLAN, or suspends the run beyond 48 slots. -/
def Obligations.ReplanServedByRunState : Prop :=
  ∀ (p : Port) (s : State), s.ready p = true → s.run.held = .all false →
    let sent := exec (.replan p) s
    let answer := fun t : State => Host.Outcome.next
      (answeredOk p 0x06 ([t.run.state.code] ++ le32 t.run.remaining) t)
    (s.run.state = .idle → sent = .next (refused p 0x14 0x06 s)) ∧
    (s.run.state = .scheduled → sent = answer (scheduleCheck s)) ∧
    (s.run.state = .conditioning ∨ s.run.state = .maintain → s.run.remaining ≤ 48 * s.plan.slotLength →
      sent = answer (startGeneration .replan s)) ∧
    (s.run.state = .conditioning ∨ s.run.state = .maintain → 48 * s.plan.slotLength < s.run.remaining →
      sent = answer (suspend s))

/-- The start of a generation captures what the plan is built from: the active bank, the latest temperatures, the budget,
the remaining time, the slot length, the limits of HPC and AIR with their availability, and the COP. Every PENDING frame
with one of the four held codes is held from then on, those that a release had freed among them. With origin START a tick
that is half taken adds nothing to the run that starts; that a tick can be half taken is the model's choice (log 4). -/
def Obligations.GenerationStartCapturesInputs : Prop :=
  ∀ (o : Origin) (s : State),
    let bank := s.store.banks.get s.store.active
    let available := fun r : LoadRecord => !(r.claims.supply || r.claims.climate || r.claims.dispatch) &&
      decide (r.state ≠ .faulted)
    startGeneration o s = { s with
      run := { s.run with
        state := .planning
        origin := some o
        held := .ofFn fun p => match (s.port.ports.get p).rx with
          | .pending f => let code := f.bytes.headD 0
            decide (code = 0x06 ∨ code = 0x60 ∨ code = 0x61 ∨ code = 0x62)
          | .empty => false
          | .inService _ _ => false
        checkDue := false }
      log :=
        if o = .start ∧ s.log.countDue = .due then { s.log with countDue := .outside } else s.log
      plan := { s.plan with capture := some {
        profile := bank
        bank := s.store.active
        tCab := s.track.tCab
        tOut := s.track.tOut
        tPack := s.track.tPack
        budget := s.power.budget
        rPlan := s.run.remaining
        slotLength := s.plan.slotLength
        hpcLimit := s.loads.hpcLimit
        airLimit := s.loads.airLimit
        hpcAvailable := available s.loads.records.hpc
        airAvailable := available s.loads.records.air
        cop := s.slots.cop.at (s.track.tOut.getD bank.tAssume) } } }

/-- A suspension closes the open slot, whose entry gets its cabin temperature at its end, issues the zero grant set, rests
the tracker, keeps every other entry of the slot table, the run profile, the run number and the accumulators, and leaves
the run in SCHEDULED. -/
def Obligations.SuspensionReturnsToScheduled : Prop :=
  ∀ s : State, 48 * s.plan.slotLength < s.run.remaining →
    let t := suspend s
    t.run.state = .scheduled ∧ t.run.remaining = s.run.remaining ∧ t.run.nextRun = s.run.nextRun ∧
    t.slots.openSlot = none ∧ t.loads.grants = .all 0 ∧ t.loads.sequence = s.loads.sequence + 1 ∧
    t.track.tracker = .idle ∧ t.track.track = false ∧ t.track.tracks = s.track.tracks ∧
    t.track.lossCount = s.track.lossCount ∧ t.log = s.log ∧ t.store = s.store ∧
    t.plan.slotLength = s.plan.slotLength ∧ t.plan.capture = s.plan.capture ∧
    (s.slots.openSlot = none ∨ s.plan.plan = none → t.plan = s.plan) ∧
    (∀ n, s.slots.openSlot = some n → ∀ r, s.plan.plan = some r → ∃ r', t.plan.plan = some r' ∧
      r' = { r with slots := r'.slots } ∧
      (∀ e, r.slots[n]? = some e → r'.slots[n]? = some { e with actual := e.actual.map fun a =>
        { a with cabEnd := if s.slots.reportSeen then s.track.tCab else none } }) ∧
      ∀ m, m ≠ n ∨ r.slots[n]? = none → r'.slots[m]? = r.slots[m]?) ∧
    (∀ p, t.router.masks.get p = s.router.masks.get p ∧
      ∃ more, t.router.pendings.get p =
        s.router.pendings.get p ||| (s.router.masks.get p &&& EventKind.setOf
          (if s.slots.openSlot.isSome then [.slotDone, .grantChanged] else [.grantChanged])) ||| more ∧
        (more = 0 ∨ more = s.router.masks.get p &&& EventKind.readinessChanged.bit))

/-- Cancel is refused in IDLE. In SCHEDULED it stops the counter, without an entry and with the accumulators zeroed. In
CONDITIONING and MAINTAIN the run ends with cause CANCELLED. Both leave IDLE with the class NONE. -/
def Obligations.CancelStopsDeparture : Prop :=
  ∀ s : State, s.ready .dispatch = true → s.run.held = .all false →
    let sent := exec (.cancel .dispatch) s
    let idle := fun t : State => { t with
      run := { t.run with state := .idle, counting := false, remaining := 0, checkDue := false }
      track := { t.track with readiness := .none, margin := 0 }
      router := if t.track.readiness = .none then t.router else recorded [.readinessChanged] t.router }
    (s.run.state = .idle → sent = .next (refused .dispatch 0x14 0x61 s)) ∧
    (s.run.state = .scheduled →
      sent = .next (answeredOk .dispatch 0x61 [0, 0, 0, 0, 0]
        (idle { s with log := { s.log with acc := ⟨0, 0, .all 0, false⟩ } }))) ∧
    (s.run.state = .conditioning ∨ s.run.state = .maintain →
      sent = .next (answeredOk .dispatch 0x61 [0, 0, 0, 0, 0] (idle (endRun .cancelled s))))

/-- A run end first closes the open slot, then appends the entry with the run's figures, advances the next run number,
issues the zero grant set, rests the tracker and raises RUN_ENDED; the budget is computed from the active bank after the
zero grant set. The tracking figures of the entry are those of a plan of the run that has completed, and its bank and
T_set those of the run profile, or of the capture of a generation of origin START in flight. The plan record is kept, with
the actual parts written so far: the open slot's entry gets its cabin temperature at its end, and nothing else of the
record changes. -/
def Obligations.RunEndTakesFiveSteps : Prop :=
  ∀ (cause : EndCause) (s : State),
    let t := endRun cause s
    let acc := s.log.acc
    (∃ e : OutcomeEntry, t.log.entries = (e :: s.log.entries).take 8 ∧
      e.run = s.run.nextRun ∧ e.cause = cause ∧ e.tCab = s.track.tCab ∧ e.readiness = s.track.readiness ∧
      e.envLost = s.power.envLost ∧ e.sheds = min acc.sheds 255 ∧ e.duration = acc.duration ∧
      (∀ l, e.energy.get l = min (acc.energy.get l / 1000) 65535) ∧
      (acc.planCompleted = true →
        e.tracks = s.track.tracks ∧ e.sensorLost = s.track.sensorLost ∧ e.lossCount = s.track.lossCount) ∧
      (acc.planCompleted = false → e.tracks = false ∧ e.sensorLost = false ∧ e.lossCount = 0) ∧
      (∀ c, s.run.origin = some .start → s.plan.capture = some c → e.bank = c.bank ∧ e.tSet = c.profile.tSet) ∧
      (∀ r, s.run.origin ≠ some .start → s.plan.plan = some r → e.bank = r.bank ∧ e.tSet = r.profile.tSet)) ∧
    t.log.acc = ⟨0, 0, .all 0, false⟩ ∧ t.log.interrupted = s.log.interrupted ∧ t.log.causes = s.log.causes ∧
    t.run = { s.run with
      nextRun := if s.run.nextRun < 65535 then s.run.nextRun + 1 else 1, origin := none, held := .all false } ∧
    t.loads.grants = .all 0 ∧ t.loads.sequence = s.loads.sequence + 1 ∧
    (∀ l, t.loads.reasons.get l =
      if (s.loads.records.get l).claims.nonempty then .inhibited
      else if (s.loads.records.get l).state = .faulted then .faulted
      else if (s.loads.records.get l).state = .cooldown then .cooldown
      else .noDemand) ∧
    t.track = { s.track with
      tracker := .idle, holdDoor := false, holdSensor := false, acquisition := 0, track := false } ∧
    t.router = recorded ((if s.slots.openSlot.isSome then [.slotDone] else []) ++ [.grantChanged, .runEnded]) s.router ∧
    t.slots = { s.slots with openSlot := none } ∧ t.plan.capture = none ∧ t.plan.slotLength = s.plan.slotLength ∧
    (s.slots.openSlot = none ∨ s.plan.plan = none → t.plan.plan = s.plan.plan) ∧
    (∀ n, s.slots.openSlot = some n → ∀ r, s.plan.plan = some r → ∃ r', t.plan.plan = some r' ∧
      r' = { r with slots := r'.slots } ∧
      (∀ e, r.slots[n]? = some e → r'.slots[n]? = some { e with actual := e.actual.map fun a =>
        { a with cabEnd := if s.slots.reportSeen then s.track.tCab else none } }) ∧
      ∀ m, m ≠ n ∨ r.slots[n]? = none → r'.slots[m]? = r.slots[m]?) ∧
    t.power = { s.power with budget := s.power.budgetFor (s.store.banks.get s.store.active) } ∧ t.store = s.store

/-- Profile Field Write clamps the value to the field's own range and stores it in the named bank. A budget field of the
active bank, while no grants are live, makes the budget be computed afresh; nothing else changes. A bank number of 4 or
above, and then a field id of 25 or above, is refused. -/
def Obligations.ProfileFieldWriteStoresClamped : Prop :=
  ∀ (bank field : Byte) (value : U16) (s : State), s.ready .dispatch = true →
    let sent := exec (.profileFieldWrite .dispatch bank field value) s
    (4 ≤ bank.toNat → sent = .next (refused .dispatch 0x13 0x63 s)) ∧
    (bank.toNat < 4 → 25 ≤ field.toNat → sent = .next (refused .dispatch 0x15 0x63 s)) ∧
    ∀ (b : Fin 4) (f : Field), bank.toNat = b.val → Field.all[field.toNat]? = some f →
      let given := if field.toNat = 0 ∨ field.toNat = 6 ∨ field.toNat = 24 then value.toInt else (value.toNat : Int)
      let stored := max f.range.1 (min f.range.2 given)
      let profile := (s.store.banks.get b).set f stored
      let written := { s with store := { s.store with banks := s.store.banks.set b profile } }
      let reply := [bank, field] ++ le16 (signed16 stored) ++ [if stored = given then 0 else 1]
      profile.get f = stored ∧ (∀ g, g ≠ f → profile.get g = (s.store.banks.get b).get g) ∧
      (13 ≤ field.toNat ∧ field.toNat ≤ 15 ∧ b = s.store.active ∧ s.live = false →
        sent = .next (answeredOk .dispatch 0x63 reply (computeBudget profile written))) ∧
      (¬(13 ≤ field.toNat ∧ field.toNat ≤ 15 ∧ b = s.store.active ∧ s.live = false) →
        sent = .next (answeredOk .dispatch 0x63 reply written))

/-- Slot Length Set stores the allowed length nearest to the value, the lower one of two that are equally near; in
SCHEDULED a schedule check follows. -/
def Obligations.SlotLengthSetStoresNearest : Prop :=
  ∀ (seconds : U16) (s : State), s.ready .dispatch = true → s.run.held = .all false →
    ∃ stored ∈ ([30, 60, 120, 240] : List Nat),
      (∀ other ∈ ([30, 60, 120, 240] : List Nat), other ≠ stored →
        ((seconds.toNat : Int) - (stored : Int)).natAbs < ((seconds.toNat : Int) - (other : Int)).natAbs ∨
        ((seconds.toNat : Int) - (stored : Int)).natAbs = ((seconds.toNat : Int) - (other : Int)).natAbs ∧
          stored < other) ∧
      let set := { s with plan := { s.plan with slotLength := stored } }
      (s.run.state ≠ .scheduled →
        exec (.slotLengthSet .dispatch seconds) s =
          .next (answeredOk .dispatch 0x64 (le16 (sat16 stored)) set)) ∧
      (s.run.state = .scheduled →
        exec (.slotLengthSet .dispatch seconds) s =
          .next (answeredOk .dispatch 0x64 (le16 (sat16 stored)) (scheduleCheck set)))

/-! ### The arithmetic of planning and allocation -/

/-- The eleven steps of the lead: the heating power that the budget leaves, compressor first; the net heat over the loss
at the mean temperature; the heating time; and the lead in whole slots, between one slot and the horizon. -/
def Obligations.LeadFollowsElevenSteps : Prop :=
  ∀ (i : LeadInputs) (slotLength : Nat), 0 < slotLength →
    let p := i.profile
    let rise := p.tSet - i.tCab
    let share := i.budget * p.cabShare / 100
    let blower := if p.blowerLevel ≤ 1 then 120 else if p.blowerLevel = 2 then 200
      else if p.blowerLevel = 3 then 300 else 400
    let heat := share - blower
    let hp0 := min heat i.hpcLimit / 100 * 100
    let hp := if hp0 < 800 ∨ i.hpcAvailable = false then 0 else hp0
    let air0 := min (heat - hp) i.airLimit / 250 * 250
    let air := if air0 < 250 ∨ i.airAvailable = false then 0 else air0
    let power := if share ≤ blower then 0 else hp * i.cop / 100 + air
    let mean := i.tCab + rise.tdiv 2
    let loss := if mean ≤ i.tOut then 0 else p.ua * (mean - i.tOut).toNat / 10
    let whole := fun t : Nat =>
      let raw := (t * (100 + p.margin) + 99) / 100 + p.settle
      max slotLength (min (48 * slotLength) ((raw + slotLength - 1) / slotLength * slotLength))
    (rise ≤ 0 → heatingTime i = some 0) ∧
    (0 < rise → power ≤ loss → heatingTime i = none) ∧
    (0 < rise → loss < power → ∃ t, heatingTime i = some t ∧ p.cCab * rise.toNat * 100 ≤ t * (power - loss) ∧
      ∀ u, p.cCab * rise.toNat * 100 ≤ u * (power - loss) → t ≤ u) ∧
    leadOf p slotLength none = 48 * slotLength ∧
    (∀ t, leadOf p slotLength (some t) = whole t)

/-- Up to R_plan the trajectory follows its formula, stands at T_set below the settle margin, starts at T0, and lies between
T0 and T_set. Above R_plan it is T0. That this holds also where R_plan is at or below the settle margin is deduced by the
model (log 13). -/
def Obligations.TrajectoryRampsToTarget : Prop :=
  ∀ (r : PlanRecord) (t : Nat),
    let target := r.profile.tSet
    let settle := r.profile.settle
    let ramp := (target - r.t0) * ((t : Int) - settle)
    (settle < r.rPlan → settle ≤ t → t ≤ r.rPlan → r.traj t = target - ramp.tdiv ((r.rPlan : Int) - settle)) ∧
    (t < settle → t ≤ r.rPlan → r.traj t = target) ∧
    (r.rPlan ≤ settle → t ≤ r.rPlan → r.traj t = target) ∧
    (r.rPlan < t → r.traj t = r.t0) ∧
    (settle < r.rPlan → r.traj r.rPlan = r.t0) ∧
    (settle ≤ r.rPlan → r.traj settle = target) ∧
    min r.t0 target ≤ r.traj t ∧ r.traj t ≤ max r.t0 target

/-- The slot table of a plan has ceiling(R_plan / L) entries; slot 0 starts at R_plan, each entry ends where the next
starts, the last ends at 0, every end is a multiple of L, and every remaining time from 1 to R_plan has one current
slot. The forecast heat need of an entry is the sum of its warming term and its loss term, at most 20000 W. -/
def Obligations.SlotTableCoversRemainingTime : Prop :=
  ∀ c : Capture, 0 < c.slotLength → 0 < c.rPlan →
    let r := c.build
    let n := r.slots.length
    n = (c.rPlan + c.slotLength - 1) / c.slotLength ∧
    (∃ e, r.slots[0]? = some e ∧ e.start = c.rPlan) ∧
    (∃ e, r.slots[n - 1]? = some e ∧ e.stop = 0 ∧ e.trajEnd = c.profile.tSet) ∧
    (∀ i e, r.slots[i]? = some e → ∀ f, r.slots[i + 1]? = some f → e.stop = f.start) ∧
    (∀ i e, r.slots[i]? = some e → e.stop < e.start ∧ e.stop = (n - i - 1) * c.slotLength ∧ e.actual = none ∧
      e.trajEnd = r.traj e.stop ∧
      (let start := r.traj e.start
       let length := e.start - e.stop
       let warming := (c.profile.cCab * (e.trajEnd - start).toNat * 100 + length - 1) / length
       let loss := c.profile.ua * (start - r.tOut).toNat / 10
       e.forecast = min 20000 (warming + loss))) ∧
    (∀ t, 1 ≤ t → t ≤ c.rPlan → ∃ i, r.currentSlot t = some i ∧ ∃ e, r.slots[i]? = some e ∧
      e.stop < t ∧ t ≤ e.start ∧ ∀ j f, r.slots[j]? = some f → f.stop < t → t ≤ f.start → j = i)

/-- The demands of an allocation. The heat need is the forecast in open loop, 0 in a ventilation slot, and else the
warming and loss terms, at most 20000 W. The blower is asked for its level with a heat need, in a ventilation slot and in
the compressor's minimum-on time; the compressor for the need by its COP, and the air heater for the heat it leaves; the
windscreen and the seats by their times; the pack heater for the energy that the pack still needs. Under lawful limits
every demand is one that its load can be granted: 0, a level power, or a multiple of the step from the minimum to the
limit. -/
def Obligations.DemandsAreGrantable : Prop :=
  ∀ i : AllocInputs,
    let p := i.profile
    let d := demands i
    let cab := i.tCab.getD 0
    let openLoop := i.openLoop = true ∨ i.tCab = none
    let ventilates := ¬openLoop ∧ p.tSet ≤ cab
    let length := i.entry.start - i.entry.stop
    let warming := (p.cCab * (i.entry.trajEnd - cab).toNat * 100 + length - 1) / length
    let loss := p.ua * (cab - i.tOut).toNat / 10
    let need := if openLoop then i.entry.forecast else if p.tSet ≤ cab then 0 else min 20000 (warming + loss)
    let hpc := i.loads.records.hpc
    let minimumOn := hpc.state = .running ∧ hpc.age < 120
    let away := hpc.claims.nonempty = true ∨ hpc.state = .faulted ∨ hpc.state = .cooldown ∨ i.floor < p.level .hpc
    let cop := i.cop.at i.tOut
    let left := need - d.hpc * cop / 100
    let energy := match i.tPack with | none => 0 | some t => p.cPack * (p.tPackTarget - t).toNat / 10
    let spread := (energy * 1000 + (i.remaining - p.settle) - 1) / (i.remaining - p.settle)
    d.blw = (if 0 < need ∨ ventilates ∨ minimumOn then
        (if p.blowerLevel ≤ 1 then 120 else if p.blowerLevel = 2 then 200 else if p.blowerLevel = 3 then 300 else 400)
      else 0) ∧
    d.hpc = (if away ∨ (need = 0 ∧ ¬minimumOn) then 0
      else min ((max 800 ((need * 100 + cop - 1) / cop) + 99) / 100 * 100) i.loads.hpcLimit) ∧
    d.air = min ((left + 249) / 250 * 250) i.loads.airLimit ∧
    d.scr = (if 0 < i.screenEnergy ∧ i.remaining ≤ p.scrWindow then 1200 else 0) ∧
    d.seat = (if i.remaining ≤ p.seatLead then (if p.seatLevel = 0 then 0 else if p.seatLevel = 1 then 150 else 300)
      else 0) ∧
    d.bat = (if i.packPlanned = false ∨ energy = 0 then 0
      else if p.settle < i.remaining then min ((spread + 249) / 250 * 250) i.loads.batLimit else i.loads.batLimit) ∧
    (800 ≤ i.loads.hpcLimit → i.loads.hpcLimit % 100 = 0 → 250 ≤ i.loads.airLimit → i.loads.airLimit % 250 = 0 →
      250 ≤ i.loads.batLimit → i.loads.batLimit % 250 = 0 →
      ∀ l : Load, lawfulGrant (i.loads.limit l) l (d.get l))

/-- An allocation grants the loads in ascending order of level, and of load number within a level, each from its demand
and from the budget that those before it have left: a load that may not run is skipped with the cause as its reason; HPC
and AIR have no grant without the blower's; a modulating load gets a multiple of its step at or above its minimum, and
a level load all of its demand or nothing. -/
def Obligations.AllocationSharesBudgetInOrder : Prop :=
  ∀ (i : AllocInputs) (l : Load),
    let p := i.profile
    let g := fun m => ((allocate i).get m).1
    let demand := (demands i).get l
    let record := i.loads.records.get l
    let left := i.budget - (PerLoad.ofFn fun m =>
      if p.level m < p.level l ∨ (p.level m = p.level l ∧ m.number < l.number) then g m else 0).sum
    let part := min demand left / l.step * l.step
    let grant := if l.modulating then (if part < l.minimum then 0 else part) else (if demand ≤ left then demand else 0)
    (allocate i).get l =
      (if record.claims.nonempty then (0, .inhibited)
       else if record.state = .faulted then (0, .faulted)
       else if record.state = .cooldown then (0, .cooldown)
       else if i.floor < p.level l then (0, .floor)
       else if demand = 0 then (0, .noDemand)
       else if (l = .hpc ∨ l = .air) ∧ g .blw = 0 then (0, .blower)
       else (grant, if grant < demand then .budget else .granted))

/-! ### The ports -/

/-- A write to the port's own address fills the scratch frame with its first 32 bytes, and a further byte sets the
too-long mark. At its end, in EMPTY, the frame becomes PENDING with the BUSY response, and in PLANNING a frame with one of
the four held codes is held; in PENDING and IN_SERVICE it is discarded, the overflow flag is set and PORT_OVERFLOW is
raised at that port alone; a write without a byte is ignored. A write that has not ended is in progress, and changes
nothing but its bus. A write that begins while a read is in progress is a repeated start, which ends the read as its stop
does; so is a write to another address, which ends a write in progress too, and does nothing else. While a reset is in
progress, or a read is stretched, nothing changes. That a command may carry a part of a write, and says where its end
falls, is the model's choice (log 25). -/
def Obligations.FinishedWriteReachesPort : Prop :=
  ∀ (p : Port) (address : BitVec 7) (data : List Byte) (ends : WriteEnd) (before : Frame) (s : State),
    let sent := exec (.finishedWrite p address ⟨data, ends⟩) s
    let index := match p with | .supply => 0 | .climate => 1 | .dispatch => 2
    let own := address.toNat = 0x30 + 4 * s.port.straps.toNat + index
    let transaction := (s.bus.get p).transaction
    let bytes := if own then before.bytes ++ data else before.bytes
    let scratch : Frame := if own then ⟨bytes.take 32, before.tooLong || decide (32 < bytes.length)⟩ else before
    let code := bytes.headD 0
    let port := s.port.ports.get p
    let onBus := fun x => { s with bus := s.bus.set p { s.bus.get p with transaction := x } }
    (s.resetting ≠ none ∨ (∃ count stops, transaction = .stretched count stops) → sent = .next s) ∧
    (s.resetting = none → transaction = .released ∨ (∃ frame n, transaction = .returning frame n) →
      ∀ t, exec (.deferredInstallation p 0) s = .next t →
        (own → sent = exec (.finishedWrite p address ⟨data, ends⟩) t) ∧ (¬own → sent = .next t)) ∧
    (s.resetting = none → transaction = .idle ∧ before = ⟨[], false⟩ ∨ (∃ marked, transaction = .writing before marked) →
      (own → ends = .goesOn → sent = .next (onBus (.writing scratch false))) ∧
      (own → ends = .inService → sent = .next (onBus (.writing scratch true))) ∧
      (¬own ∨ ends = .stop →
        (bytes = [] → sent = .next (onBus .idle)) ∧
        (bytes ≠ [] → port.rx = .empty →
          sent = .next { onBus .idle with
            port := { s.port with
              ports := s.port.ports.set p { port with rx := .pending scratch, response := [0x01, code, 0] } }
            run := { s.run with
              held :=
                if s.run.state = .planning ∧ (code = 0x06 ∨ code = 0x60 ∨ code = 0x61 ∨ code = 0x62) then
                  s.run.held.set p true
                else s.run.held } }) ∧
        (bytes ≠ [] → port.rx ≠ .empty →
          sent = .next { onBus .idle with
            port := { s.port with ports := s.port.ports.set p { port with overflow := true } }
            router := { s.router with
              pendings :=
                s.router.pendings.set p (s.router.pendings.get p ||| (s.router.masks.get p &&& 0x2000#16)) } })))

/-- A read of a port returns the response buffer, and 0xFF for each byte beyond it; in HOLD, while a request is
outstanding, it is stretched instead. Where the stop of the read falls before the next command, the bus is free again.
A read that begins while another transaction is in progress is a repeated start, which ends a write, and a read as its stop
does; a read of another address is not acknowledged and does nothing else. While a reset is in progress, or a read is
stretched, nothing changes. That the command says how many bytes are clocked, and whether the stop follows, is the model's choice
(log 10). -/
def Obligations.ResponseReadFollowsMode : Prop :=
  ∀ (p : Port) (address : BitVec 7) (count : Nat) (stops : Bool) (s : State),
    let read := exec (.responseRead p address count stops)
    let index := match p with | .supply => 0 | .climate => 1 | .dispatch => 2
    let own := address.toNat = 0x30 + 4 * s.port.straps.toNat + index
    let transaction := (s.bus.get p).transaction
    let port := s.port.ports.get p
    let data := (port.response ++ List.replicate count 0xFF).take count
    (s.resetting ≠ none ∨ (∃ n e, transaction = .stretched n e) → read s = .next s) ∧
    (s.resetting = none → transaction = .idle →
      (¬own → read s = .next s) ∧
      (own → port.mode = .prepared ∨ port.rx = .empty →
        read s = .next { s with
          bus := s.bus.set p ⟨if stops then .idle else .returning port.response count, data⟩ }) ∧
      (own → port.mode = .hold → port.rx ≠ .empty →
        read s = .next { s with bus := s.bus.set p ⟨.stretched count stops, []⟩ })) ∧
    (s.resetting = none → transaction = .released ∨ (∃ frame n, transaction = .returning frame n) →
      ∀ t, exec (.deferredInstallation p 0) s = .next t → (own → read s = read t) ∧ (¬own → read s = .next t)) ∧
    (s.resetting = none → ∀ scratch marked, transaction = .writing scratch marked →
      ∀ other : BitVec 7, other.toNat ≠ 0x30 + 4 * s.port.straps.toNat + index →
        ∀ t, exec (.finishedWrite p other ⟨[], .stop⟩) s = .next t →
          (own → read s = read t) ∧ (¬own → read s = .next t))

/-- A stretched read at its limit returns the NOT_READY frame for the outstanding code and leaves the request outstanding.
A read in progress returns the rest of what it clocks from the frame it began with, and at its stop a response whose
service completed meanwhile is installed. After a reset the rest is 0xFF. Three things in this are the model's choice:
that a command without such a read changes nothing (log 6), that the command says how many bytes are clocked (log 10), and
that a read which a reset found stretched gives 0xFF like one that was returning bytes (log 11). -/
def Obligations.ReadsEndAtLimitAndStop : Prop :=
  ∀ (p : Port) (more : Nat) (s : State),
    let bus := s.bus.get p
    let port := s.port.ports.get p
    let stopped := fun rest : List Byte => { s with
      bus := s.bus.set p ⟨.idle, bus.data ++ (rest ++ List.replicate more 0xFF).take more⟩ }
    (∀ count stops, bus.transaction = .stretched count stops → ∀ f d, port.rx = .pending f ∨ port.rx = .inService f d →
      let late := [0x02, f.bytes.headD 0, 0]
      exec (.stretchLimit p) s = .next { s with
        bus := s.bus.set p
          ⟨if stops then .idle else .returning late count, (late ++ List.replicate count 0xFF).take count⟩ }) ∧
    ((∀ count stops, bus.transaction ≠ .stretched count stops) → exec (.stretchLimit p) s = .next s) ∧
    (∀ frame sent, bus.transaction = .returning frame sent → ∀ f r, port.rx = .inService f (some r) →
      exec (.deferredInstallation p more) s = .next { stopped (frame.drop sent) with
        port := { s.port with ports := s.port.ports.set p { port with rx := .empty, response := r } } }) ∧
    (∀ frame sent, bus.transaction = .returning frame sent → (∀ f r, port.rx ≠ .inService f (some r)) →
      exec (.deferredInstallation p more) s = .next (stopped (frame.drop sent))) ∧
    (bus.transaction = .released → exec (.deferredInstallation p more) s = .next (stopped [])) ∧
    (bus.transaction = .idle ∨ (∃ count stops, bus.transaction = .stretched count stops) ∨
        (∃ scratch marked, bus.transaction = .writing scratch marked) →
      exec (.deferredInstallation p more) s = .next s)

/-- The service of PENDING frames. A frame in service acts as its request does, and then its response is installed; a
stretched read returns it; while a read is returning bytes the installation waits for the stop of that read; and a write
whose stop falls within the service is an overflow that comes after what the service did and before the installation. The
command of a PENDING request serves its frame, after that of another port which comes first in the rotation; the frames
that a release has freed are served in the rotation, and where none is freed nothing is served. A different frame that
stands PENDING makes the command's write an overflow. The commands' part in this is the model's choice (log 2, log 3,
log 25). -/
def Obligations.PendingFrameServedByItsCommand : Prop :=
  (∀ (p : Port) (f : Frame) (s : State), (s.port.ports.get p).rx = .pending f →
    ¬(p = .dispatch ∧ f = ⟨[0x65, 0], false⟩) →
    let port := s.port.ports.get p
    let taken := { s with port := { s.port with
      ports := s.port.ports.set p { port with rx := .inService f none }, rotation := p } }
    let t := (serveFrame p f taken).1
    let reply := (serveFrame p f taken).2.frame (f.bytes.headD 0)
    let after := t.port.ports.get p
    let with_ := fun x => { t with port := { t.port with ports := t.port.ports.set p x } }
    let installed := with_ { after with rx := .empty, response := reply }
    ((s.bus.get p).transaction = .idle ∨ (s.bus.get p).transaction = .released ∨
        (∃ scratch, (s.bus.get p).transaction = .writing scratch false) → servePort p s = installed) ∧
    (∀ count stops, (s.bus.get p).transaction = .stretched count stops →
      servePort p s = { installed with
        bus := s.bus.set p
          ⟨if stops then .idle else .returning reply count, (reply ++ List.replicate count 0xFF).take count⟩ }) ∧
    (∀ frame n, (s.bus.get p).transaction = .returning frame n →
      servePort p s = with_ { after with rx := .inService f (some reply) }) ∧
    (∀ scratch, (s.bus.get p).transaction = .writing scratch true → scratch.bytes ≠ [] →
      servePort p s = { with_ { after with rx := .empty, response := reply, overflow := true } with
        bus := s.bus.set p { s.bus.get p with transaction := .idle }
        router := { t.router with
          pendings := t.router.pendings.set p (t.router.pendings.get p ||| (t.router.masks.get p &&& 0x2000#16)) } })) ∧
  (∀ (c : Instr) (p : Port) (f g : Frame) (s : State), requestFrame c = some (p, f) → f.bytes ≠ [] →
    s.resetting = none → s.run.held = .all false → (s.port.ports.get p).rx = .pending g →
    (g = f → (∀ q, q ≠ p → s.candidate q = false) → exec c s = .next (servePort p s)) ∧
    (g = f → ∀ q, q ≠ p → s.candidate q = true → (∀ r, r ≠ p → r ≠ q → s.candidate r = false) →
      (q.index + 2 - s.port.rotation.index) % 3 < (p.index + 2 - s.port.rotation.index) % 3 →
      let u := servePort q s
      u.candidate p = true → exec c s = .next (servePort p u)) ∧
    (g ≠ f → (s.bus.get p).transaction = .idle →
      let port := s.port.ports.get p
      exec c s = .next { s with
        port := { s.port with ports := s.port.ports.set p { port with overflow := true } }
        router := { s.router with
          pendings := s.router.pendings.set p (s.router.pendings.get p ||| (s.router.masks.get p &&& 0x2000#16)) } })) ∧
  ∀ before t : State,
    let freed := fun q => before.run.held.get q = true ∧ t.candidate q = true
    ((∀ q, ¬freed q) → serveReleased before t = t) ∧
    ∀ q, (∃ x, freed x) → t.candidate q = true →
      (∀ r, r ≠ q → t.candidate r = true →
        (q.index + 2 - t.port.rotation.index) % 3 < (r.index + 2 - t.port.rotation.index) % 3) →
      serveReleased before t = serveReleased before (servePort q t)

/-! ### The time base -/

/-- A tick lowers the departure counter while it runs, and the hold and sensor timers, and the state ages rise; a running
windscreen heater drains its energy, and in a run the duration and the granted energies rise. The model's choices in this
are that what an earlier tick brought is taken first, that TIME_BASE_TICK finishes a tick which an earlier event has
begun, which adds nothing to a run that has started within it (log 4), that the frames which wait are served first (log 3), and that the time base does not run while a reset is
in progress (log 9). Where nothing waits, nothing comes first. -/
def Obligations.TimeBaseTickCounts : Prop :=
  ∀ s : State,
    let counted := fun (run : RunBlock) (x : State) => { x with
      run := run
      slots := { x.slots with screenEnergy :=
        x.slots.screenEnergy - (if x.loads.records.scr.state = .running then x.loads.grants.scr else 0) }
      log := { x.log with
        countDue := .none
        acc :=
          if x.run.state = .planning ∨ x.run.state = .conditioning ∨ x.run.state = .maintain then
            { x.log.acc with
              duration := min 65535 (x.log.acc.duration + 1)
              energy := .ofFn fun l => x.log.acc.energy.get l + x.loads.grants.get l }
          else x.log.acc } }
    (s.resetting ≠ none → exec .timeBaseTick s = .next s) ∧
    (s.resetting = none → s.log.countDue = .due → exec .timeBaseTick s = .next (counted s.run s)) ∧
    (s.resetting = none → s.log.countDue = .outside →
      exec .timeBaseTick s = .next { s with log := { s.log with countDue := .none } }) ∧
    (s.settled = true → s.quiet = true → beforeTick s = s) ∧
    let u := beforeTick s
    (s.resetting = none → s.log.countDue = .none → u.resetting = none →
      let remaining := if u.run.counting then u.run.remaining - 1 else u.run.remaining
      let run := { u.run with
        remaining := remaining
        checkDue := decide (u.run.state = .scheduled) && decide (remaining % u.plan.slotLength = 0) }
      exec .timeBaseTick s = .next { counted run u with
        loads := { u.loads with records := .ofFn fun l =>
          { u.loads.records.get l with age := min 65535 ((u.loads.records.get l).age + 1) } }
        power := { u.power with holdTimer := u.power.holdTimer.map (· - 1) }
        track := { u.track with sensorTimer := u.track.sensorTimer.map (· - 1) } })

/-- An event that a tick brings, given before TIME_BASE_TICK, begins that tick: it is taken when the counters, timers and
ages have moved and the grants in force have not been counted yet, so that any number of issues of grant sets come before
the count, and TIME_BASE_TICK is then the count. An event that the count itself brings has the tick finished. Where the
next tick does not bring the event, it does not fall and nothing changes. The commands' part in this is the model's choice
(log 4, log 6). -/
def Obligations.TickEventsFallWithTheirTick : Prop :=
  let events : List (Instr × (State → Bool)) :=
    [(.departureExpiry, State.expired), (.scheduleCheck, checkDue), (.phaseChange, phaseChangeDue),
     (.slotStart, slotStartDue), (.holdTimerExpiry, holdExpiryDue), (.startTimeout, startTimeoutDue),
     (.cooldownEnd, cooldownEndDue), (.minimumOnEnd, minimumOnEndDue), (.windscreenEnergySpent, screenSpentDue),
     (.sensorTimerExpiry, sensorExpiryDue)]
  let counted := fun x : State => { x with
    slots := { x.slots with screenEnergy :=
      x.slots.screenEnergy - (if x.loads.records.scr.state = .running then x.loads.grants.scr else 0) }
    log := { x.log with
      countDue := .none
      acc :=
        if x.run.state = .planning ∨ x.run.state = .conditioning ∨ x.run.state = .maintain then
          { x.log.acc with
            duration := min 65535 (x.log.acc.duration + 1)
            energy := .ofFn fun l => x.log.acc.energy.get l + x.loads.grants.get l }
        else x.log.acc } }
  ∀ c due, (c, due) ∈ events → ∀ s, s.resetting = none → due s = false →
    let closed := match s.log.countDue with
      | .none => s
      | .outside => { s with log := { s.log with countDue := .none } }
      | .due => counted s
    let u := beforeTick closed
    let remaining := if u.run.counting then u.run.remaining - 1 else u.run.remaining
    let begun := { u with
      run := { u.run with
        remaining := remaining
        checkDue := decide (u.run.state = .scheduled) && decide (remaining % u.plan.slotLength = 0) }
      loads := { u.loads with records := .ofFn fun l =>
        { u.loads.records.get l with age := min 65535 ((u.loads.records.get l).age + 1) } }
      power := { u.power with holdTimer := u.power.holdTimer.map (· - 1) }
      track := { u.track with sensorTimer := u.track.sensorTimer.map (· - 1) }
      log := { u.log with countDue := .due } }
    (due closed = true → exec c s = exec c closed) ∧
    (due closed = false → u.resetting = none → due begun = true → exec c s = exec c begun) ∧
    (due closed = false → u.resetting = none → due begun = false → due (counted begun) = true →
      exec c s = exec c (counted begun)) ∧
    (due closed = false → u.resetting ≠ none ∨ (due begun = false ∧ due (counted begun) = false) →
      exec c s = .next s)

/-- The departure expires where the running counter stands at 0: a run in progress ends with cause DEPARTED; then in
ONE_SHOT the counter stops in IDLE with the class NONE, and in REPEAT it reloads with the period in SCHEDULED and a
schedule check follows. Where the tick still has to count by the grants, it does so before the run end. The frames that the run end releases are then served. That without a run the mode alone decides is
the model's choice (log 15), for a case which the spec says does not come about. -/
def Obligations.DepartureExpiryEndsOrReloads : Prop :=
  ∀ s : State, s.resetting = none → s.run.counting = true → s.run.remaining = 0 →
    let inRun := s.run.state = .planning ∨ s.run.state = .conditioning ∨ s.run.state = .maintain
    let closed := match s.log.countDue with
      | .none => s
      | .outside => { s with log := { s.log with countDue := .none } }
      | .due =>
        { s with
          slots := { s.slots with screenEnergy :=
            s.slots.screenEnergy - (if s.loads.records.scr.state = .running then s.loads.grants.scr else 0) }
          log := { s.log with
            countDue := .none
            acc :=
              if inRun then
                { s.log.acc with
                  duration := min 65535 (s.log.acc.duration + 1)
                  energy := .ofFn fun l => s.log.acc.energy.get l + s.loads.grants.get l }
              else s.log.acc } }
    let u := if inRun then endRun .departed closed else closed
    (s.run.mode = .oneShot →
      exec .departureExpiry s = .next (serveReleased s { u with
        run := { u.run with state := .idle, counting := false, remaining := 0, checkDue := false }
        track := { u.track with readiness := .none, margin := 0 }
        router := if u.track.readiness = .none then u.router else recorded [.readinessChanged] u.router })) ∧
    (s.run.mode = .repeating →
      exec .departureExpiry s = .next (serveReleased s (scheduleCheck { u with run := { u.run with
        state := .scheduled, counting := true, remaining := s.run.period * 60, checkDue := false } })))

/-- A schedule check re-examines the envelope, which returns a LOST monitor whose hold timer runs to LIVE, computes the
budget and the lead from the active bank, makes the forecast, and starts a generation when the remaining time is at or
below the lead. -/
def Obligations.ScheduleCheckComparesLead : Prop :=
  ∀ s : State, s.resetting = none → s.run.state = .scheduled → s.run.checkDue = true → s.loads.grants = .all 0 →
    let p := s.store.banks.get s.store.active
    let returns := s.power.state = .lost ∧ s.power.holdTimer.getD 0 ≠ 0
    let envelope := if returns then { s.power with state := .live, envLost := false, source := .live } else s.power
    let offered := match envelope.source, s.power.latest with
      | .fallback, _ => p.fallbackW
      | .live, some e => (if e.connected then e.grid else 0) + (if p.allowPack = 0 then 0 else e.pack)
      | .live, none => 0
    let available := fun r : LoadRecord => !(r.claims.supply || r.claims.climate || r.claims.dispatch) &&
      decide (r.state ≠ .faulted)
    let tOut := s.track.tOut.getD p.tAssume
    let heating := heatingTime {
      profile := p, tCab := s.track.tCab.getD p.tAssume, tOut := tOut, budget := offered - p.wRes
      hpcLimit := s.loads.hpcLimit, airLimit := s.loads.airLimit
      hpcAvailable := available s.loads.records.hpc, airAvailable := available s.loads.records.air
      cop := s.slots.cop.at tOut }
    let class_ := readinessClass p (s.track.tCab.getD p.tAssume) s.run.remaining heating
    let checked := { s with
      run := { s.run with checkDue := false }
      power := { envelope with budget := offered - p.wRes }
      track := { s.track with
        readiness := class_, margin := readinessMargin s.run.remaining p.settle heating }
      router := if class_ = s.track.readiness then s.router else recorded [.readinessChanged] s.router }
    exec .scheduleCheck s = .next
      (if s.run.remaining ≤ leadOf p s.plan.slotLength heating then startGeneration .start checked else checked)

/-- The readiness margin is the remaining time less S and t_heat, within 16 bits; the class is the first of READY,
UNREACHABLE, ON_TIME, AT_RISK and LATE whose condition holds; and the COP is that of the highest breakpoint at or below
the outdoor temperature. -/
def Obligations.ForecastGivesClassAndMargin : Prop :=
  (∀ (p : Profile) (tCab : Int) (remaining : Nat) (heating : Option Nat),
    let off := (tCab - p.tSet).natAbs
    let margin := fun t : Nat => (remaining : Int) - p.settle - t
    readinessMargin remaining p.settle none = -32767 ∧
    (∀ t, readinessMargin remaining p.settle (some t) = max (-32767) (min 32767 (margin t))) ∧
    (off ≤ p.wTrack → readinessClass p tCab remaining heating = .ready) ∧
    (p.wTrack < off → heating = none → readinessClass p tCab remaining heating = .unreachable) ∧
    (∀ t, p.wTrack < off → heating = some t →
      (0 ≤ margin t → readinessClass p tCab remaining heating = .onTime) ∧
      (margin t < 0 → t ≤ remaining → readinessClass p tCab remaining heating = .atRisk) ∧
      (margin t < 0 → remaining < t → readinessClass p tCab remaining heating = .late))) ∧
  ∀ (c : CopTable) (tOut : Int) (i : Nat), i < 8 →
    (i = 0 ∨ -400 + 100 * (i : Int) ≤ tOut) → (i = 7 ∨ tOut < -300 + 100 * (i : Int)) →
    some (c.at tOut) = [c.c0, c.c1, c.c2, c.c3, c.c4, c.c5, c.c6, c.c7][i]?

/-- A plan completion installs the plan of the capture, loads the windscreen energy, restarts tracking, re-examines the
envelope, which sheds where the budget falls below the grants, sets the run state and releases the held frames, allocates
the slot that contains the remaining time, makes the forecast of the capture and raises PLAN_DONE, and RUN_STARTED for a
START. The allocation takes the values as they stand, with the new run profile. The released frames are then served. -/
def Obligations.PlanCompletionTakesEightSteps : Prop :=
  ∀ (c : Capture) (n : Nat) (e : SlotEntry) (s : State), s.resetting = none → s.run.state = .planning →
    s.plan.capture = some c → s.settled = true →
    c.build.currentSlot s.run.remaining = some n → c.build.slots[n]? = some e →
    let p := c.profile
    let returns := s.power.state = .lost ∧ s.power.holdTimer.getD 0 ≠ 0
    let envelope := if returns then { s.power with state := .live, envLost := false, source := .live } else s.power
    let power := { envelope with budget := envelope.budgetFor p }
    let sheds := power.budget < s.loads.grants.sum
    let loads := if sheds then (shed p { s with power := power }).loads else s.loads
    let lost := s.track.sensorTimer.isNone
    let inputs : AllocInputs := {
      profile := p, entry := e, packPlanned := c.tPack.isSome && decide (p.cPack ≠ 0)
      tCab := s.track.tCab, tOut := s.track.tOut.getD p.tAssume, tPack := s.track.tPack, openLoop := lost
      budget := power.budget, source := power.source, floor := power.floor, loads := loads, cop := s.slots.cop
      screenEnergy := p.scrEnergy * 1000, remaining := s.run.remaining }
    let given := allocate inputs
    let heating := heatingTime c.leadInputs
    let class_ := readinessClass p c.cabin s.run.remaining heating
    let kinds := (if lost then [EventKind.sensorLost] else []) ++ (if sheds then [.shed] else []) ++ [.grantChanged]
      ++ (if class_ = s.track.readiness then [] else [.readinessChanged]) ++ [.planDone]
      ++ (if s.run.origin = some .start then [.runStarted] else [])
    exec .planCompletion s = .next (serveReleased s { s with
      run := { s.run with
        state := if p.settle < s.run.remaining then .conditioning else .maintain, origin := none, held := .all false }
      plan := { s.plan with
        capture := none
        plan := some { c.build with
          slots := c.build.slots.set n { e with
            actual := some ⟨.ofFn fun l => (given.get l).1, resultFlags inputs, 0, none⟩ } } }
      slots := { s.slots with screenEnergy := p.scrEnergy * 1000, openSlot := some n, reportSeen := false }
      loads := (issue (.ofFn fun l => some (given.get l)) { s with loads := loads }).loads
      power := power
      track := { s.track with
        sensorLost := lost
        openLoop := lost
        tracker := if s.track.doorOpen || lost then .held else .acq1
        holdDoor := s.track.doorOpen
        holdSensor := lost
        acquisition := 0
        track := false
        tracks := false
        lossCount := 0
        heating := match heating with | none => .unreachable | some t => .seconds t
        readiness := class_
        margin := readinessMargin s.run.remaining p.settle heating }
      router := recorded kinds s.router
      log := { s.log with acc := { s.log.acc with
        sheds := if sheds then s.log.acc.sheds + 1 else s.log.acc.sheds, planCompleted := true } } })

/-- A slot start closes the open slot with SLOT_DONE, allocates the slot that starts at the remaining time, which becomes
the open slot, and makes the forecast from the run profile. The result flags follow from the demands and the grants of
the six loads. -/
def Obligations.SlotStartAllocatesSlot : Prop :=
  ∀ (n : Nat) (e : SlotEntry) (r : PlanRecord) (s : State), s.resetting = none →
    s.run.state = .conditioning ∨ s.run.state = .maintain → s.run.remaining ≠ 0 → s.plan.plan = some r →
    r.slots[n]? = some e → e.start = s.run.remaining → n ≠ 0 → s.slots.openSlot ≠ some n →
    (∀ m, m < n → ∀ f, r.slots[m]? = some f → f.start ≠ s.run.remaining) →
    let p := r.profile
    let tOut := s.track.tOut.getD p.tAssume
    let inputs : AllocInputs := {
      profile := p, entry := e, packPlanned := r.packPlanned
      tCab := s.track.tCab, tOut := tOut, tPack := s.track.tPack, openLoop := s.track.openLoop
      budget := s.power.budget, source := s.power.source, floor := s.power.floor, loads := s.loads
      cop := s.slots.cop, screenEnergy := s.slots.screenEnergy, remaining := s.run.remaining }
    let given := allocate inputs
    let wanted := demands inputs
    let issued := (issue (.ofFn fun l => some (given.get l)) s).loads
    let available := fun r : LoadRecord => !(r.claims.supply || r.claims.climate || r.claims.dispatch) &&
      decide (r.state ≠ .faulted)
    let heating := heatingTime {
      profile := p, tCab := s.track.tCab.getD p.tAssume, tOut := tOut, budget := s.power.budget
      hpcLimit := s.loads.hpcLimit, airLimit := s.loads.airLimit
      hpcAvailable := available issued.records.hpc, airAvailable := available issued.records.air
      cop := s.slots.cop.at tOut }
    let class_ := readinessClass p (s.track.tCab.getD p.tAssume) s.run.remaining heating
    let kinds := (if s.slots.openSlot.isSome then [EventKind.slotDone] else []) ++ [.grantChanged]
      ++ (if class_ = s.track.readiness then [] else [.readinessChanged])
    ∃ t r' a, exec .slotStart s = .next t ∧
      t.loads = issued ∧ t.slots = { s.slots with openSlot := some n, reportSeen := false } ∧
      t.track = { s.track with
        readiness := class_, margin := readinessMargin s.run.remaining p.settle heating } ∧
      t.router = recorded kinds s.router ∧
      t.plan = { s.plan with plan := some r' } ∧ r' = { r with slots := r'.slots } ∧
      r'.slots.length = r.slots.length ∧ r'.slots[n]? = some { e with actual := some a } ∧
      (∀ l, a.grants.get l = (given.get l).1) ∧ a.sheds = 0 ∧ a.cabEnd = none ∧
      (a.flags.deficit = true ↔ ∃ l, (given.get l).1 < wanted.get l) ∧
      (a.flags.shortfall = true ↔ ∃ l, 0 < wanted.get l ∧ (given.get l).1 * 2 < wanted.get l) ∧
      (a.flags.noneGranted = true ↔ ∀ l, (given.get l).1 = 0) ∧
      (a.flags.openLoop = true ↔ s.track.openLoop = true ∨ s.track.tCab = none) ∧
      (a.flags.fallback = true ↔ s.power.source = .fallback) ∧
      (a.flags.clamped = true ↔ s.track.openLoop = false ∧ ∃ cab, s.track.tCab = some cab ∧ cab < p.tSet ∧
        20000 < (p.cCab * (e.trajEnd - cab).toNat * 100 + (e.start - e.stop) - 1) / (e.start - e.stop)
          + p.ua * (cab - tOut).toNat / 10) ∧
      (∀ m, s.slots.openSlot = some m → ∀ f, r.slots[m]? = some f → ∀ b, f.actual = some b →
        r'.slots[m]? = some { f with actual := some { b with
          cabEnd := if s.slots.reportSeen then s.track.tCab else none } }) ∧
      (∀ m, m ≠ n → s.slots.openSlot ≠ some m → r'.slots[m]? = r.slots[m]?) ∧
      t.run = s.run ∧ t.power = s.power ∧ t.store = s.store ∧ t.port = s.port ∧ t.log = s.log

/-- The phase changes where the remaining time reaches S. COOLDOWN ends at 180 s, without a grant set. The end of the
minimum-on time and the end of the windscreen energy change nothing more. Loads that have been STARTING for 15 s enter
FAULTED together with cause NO_START: one grant set removes their grants and LOAD_FAULT is raised once. -/
def Obligations.PhaseAndLoadTimersTakeEffect : Prop :=
  ∀ s : State, s.resetting = none →
    let hpc := s.loads.records.hpc
    let late := fun l => (s.loads.records.get l).state = .starting ∧ 15 ≤ (s.loads.records.get l).age
    let entered := { s with
      loads := { s.loads with
        records := .ofFn fun l =>
          if late l then { s.loads.records.get l with state := .faulted, age := 0, cause := some .noStart }
          else s.loads.records.get l } }
    (∀ r, s.plan.plan = some r → s.run.state = .conditioning → s.run.remaining = r.profile.settle →
      s.run.remaining ≠ 0 →
      exec .phaseChange s = .next { s with run := { s.run with state := .maintain } }) ∧
    (hpc.state = .cooldown → 180 ≤ hpc.age →
      exec .cooldownEnd s = .next { s with loads := { s.loads with
        records := { s.loads.records with hpc := { hpc with state := .off, age := 0 } } } }) ∧
    (hpc.state = .running → hpc.age = 120 → exec .minimumOnEnd s = .next s) ∧
    (s.slots.screenEnergy = 0 → exec .windscreenEnergySpent s = .next s) ∧
    ((∃ l, late l) →
      exec .startTimeout s = .next
        { issue (.ofFn fun l => if late l then some (0, .faulted) else none) entered with
          router := recorded [.grantChanged, .loadFault] s.router })

/-- An expiry of the hold timer stops it; in LIVE the envelope is LOST, ENV_LOST is set and raised, and the fallback budget
comes into force, with the shed it may cause. An expiry of the sensor timer stops it; while grants are live, sensor loss
is declared: SENSOR_LOST is set and raised, open loop begins, TRACK is cleared and the tracker is HELD with cause
SENSOR. -/
def Obligations.ControllerTimersExpire : Prop :=
  ∀ s : State, s.resetting = none →
    let live := s.run.state = .conditioning ∨ s.run.state = .maintain
      ∨ (s.run.state = .planning ∧ s.run.origin = some .replan)
    let budget := s.inForce.fallbackW - s.inForce.wRes
    let fallen := { s with
      power := { s.power with
        holdTimer := none, state := .lost, envLost := true, source := .fallback, budget := budget }
      router := recorded [.envLost] s.router }
    (s.power.holdTimer = some 0 → s.power.state = .live →
      (s.loads.grants.sum ≤ budget → exec .holdTimerExpiry s = .next fallen) ∧
      (budget < s.loads.grants.sum → exec .holdTimerExpiry s = .next (shed s.inForce fallen))) ∧
    (s.power.holdTimer = some 0 → s.power.state ≠ .live →
      exec .holdTimerExpiry s = .next { s with power := { s.power with holdTimer := none } }) ∧
    (s.track.sensorTimer = some 0 → live →
      exec .sensorTimerExpiry s = .next { s with
        track := { s.track with
          sensorTimer := none, sensorLost := true, openLoop := true, track := false, tracker := .held,
          holdSensor := true }
        router := recorded [.sensorLost] s.router }) ∧
    (s.track.sensorTimer = some 0 → ¬live →
      exec .sensorTimerExpiry s = .next { s with track := { s.track with sensorTimer := none } })

/-! ### The resets -/

/-- The fall of a reset. A power-on reset falls in any state, a pin reset while no reset is in progress, and a soft reset
at the service of a Soft Reset. Every block takes its reset values; a pin or soft reset keeps the held state and takes
the entry of a run in progress. A pin reset during a soft one makes it both, and during a power-on reset nothing. That
the values are taken at the fall, and a read is cut there, is the model's choice (log 11, log 12). -/
def Obligations.ResetFallSetsValues : Prop :=
  ∀ s : State,
    let values := fun (por : Bool) (causes : ResetCauses) =>
      let store := if por then StoreBlock.powerOn else s.store
      let active := store.banks.get store.active
      let inRun := s.run.state = .planning ∨ s.run.state = .conditioning ∨ s.run.state = .maintain
      ({ run := ⟨.idle, 0, false, .fine, .oneShot, if por then 720 else s.run.period,
          if por then 1 else s.run.nextRun, none, .all false, false⟩
         plan := ⟨if por then 120 else s.plan.slotLength, none, none⟩
         slots := ⟨if por then ⟨100, 130, 160, 200, 250, 300, 350, 400⟩ else s.slots.cop, 0, none, false⟩
         loads := ⟨.all ⟨.off, 0, .all false, none⟩, if por then 4500 else s.loads.hpcLimit,
          if por then 6000 else s.loads.airLimit, if por then 5000 else s.loads.batLimit, 0, .all 0,
          .all .noDemand, .all 0, false, 0⟩
         power := ⟨none, none, .none, false, .fallback, active.fallbackW - active.wRes, 3, 0, 0⟩
         track := ⟨none, none, none, false, none, if por then 10 else s.track.sensorTimeout, false, false, .idle,
          false, false, 0, false, false, 0, .none, .none, 0⟩
         store := store
         router := ⟨⟨0x60E3, 0x6912, 0x7403⟩, .all 0⟩
         port := ⟨.all ⟨.empty, [0x03, 0x00, 0x00], .hold, false⟩, .dispatch, s.port.straps⟩
         bus := .ofFn fun p => { s.bus.get p with
          transaction := match (s.bus.get p).transaction with
            | .idle => .idle
            | .writing _ _ => .idle
            | .stretched _ _ => .released
            | .returning _ _ => .released
            | .released => .released }
         log := ⟨if por then [] else s.log.entries, ⟨0, 0, .all 0, false⟩,
          if por then none else if inRun then some (s.takeEntry .reset) else s.log.interrupted, s.log.causes, .none⟩
         resetting := some causes
         pending := s.pending } : State)
    exec .powerOnReset s = .next (values true ⟨true, false, false⟩) ∧
    (s.resetting = none → exec .pinReset s = .next (values false ⟨false, true, false⟩)) ∧
    (s.ready .dispatch = true → exec (.softReset .dispatch) s = .next (values false ⟨false, false, true⟩)) ∧
    ∀ c, s.resetting = some c →
      (c.por = true → exec .pinReset s = .next s) ∧
      (c.por = false → exec .pinReset s = .next { s with resetting := some { c with pin := true } })

/-- The release of a reset samples the straps, appends an interrupted-run record as a RESET entry and advances the next
run number past it, sets the reset cause record, and makes RESET_DONE pending at every port, whose masks stand at their
defaults. Every other block stands as the fall has left it, since the model deduces that the blocks take their reset
values there (log 12). That the command changes nothing without a reset in progress is the model's choice (log 6). -/
def Obligations.ResetReleaseEndsReset : Prop :=
  ∀ (adsel1 adsel0 : Bool) (s : State),
    let sent := exec (.resetRelease adsel1 adsel0) s
    (s.resetting = none → sent = .next s) ∧
    ∀ c, s.resetting = some c → ∃ t, sent = .next t ∧
      t.resetting = none ∧
      t.port.straps.toNat = 2 * adsel1.toNat + adsel0.toNat ∧ t.port = { s.port with straps := t.port.straps } ∧
      t.router = ⟨⟨0x60E3, 0x6912, 0x7403⟩, .all 0x4000⟩ ∧ (∀ p, t.attention p = true) ∧
      t.log.interrupted = none ∧ t.log.acc = s.log.acc ∧
      (c.por = true → t.log.causes = ⟨true, false, false⟩) ∧
      (c.por = false → t.log.causes.por = s.log.causes.por ∧
        (t.log.causes.pin = true ↔ s.log.causes.pin = true ∨ c.pin = true) ∧
        (t.log.causes.soft = true ↔ s.log.causes.soft = true ∨ c.soft = true)) ∧
      (s.log.interrupted = none → t.log.entries = s.log.entries ∧ t.run = s.run) ∧
      (∀ e, s.log.interrupted = some e →
        t.log.entries = (e :: s.log.entries).take 8 ∧
        t.run = { s.run with nextRun := if s.run.nextRun < 65535 then s.run.nextRun + 1 else 1 }) ∧
      t.plan = s.plan ∧ t.slots = s.slots ∧ t.loads = s.loads ∧ t.power = s.power ∧ t.track = s.track ∧
      t.store = s.store ∧ t.bus = s.bus

/-! ### What every step keeps -/

/-- Every step keeps the grants: their sum within the budget in force, none for a heater without the blower, a grant
exactly for a load that starts or runs, none for an inhibited load, each a value that the load may have, and none while no
grants of a run are live; with the table of the run states. -/
def Obligations.EveryStepKeepsGrants : Prop :=
  ∀ s t : State, step s = .next t →
    s.withinBudget → s.heatersNeedBlower → s.grantsFollowStates → s.grantsLawful → s.runTable →
    t.withinBudget ∧ t.heatersNeedBlower ∧ t.grantsFollowStates ∧ t.grantsLawful ∧ t.runTable

/-- Every step keeps the table of the envelope states, the table of the tracker states, each field of each bank within its
range, and each pending set within its mask. -/
def Obligations.EveryStepKeepsTables : Prop :=
  ∀ s t : State, step s = .next t →
    (s.envelopeTable → t.envelopeTable) ∧ (s.trackerTable → t.trackerTable) ∧ (s.banksInRange → t.banksInRange) ∧
    (s.pendingMasked → t.pendingMasked)

/-- Every step keeps the order of the log: at most 8 entries, newest first, with run numbers that lead up to the next run
number without gaps, and an interrupted-run record only through a reset. -/
def Obligations.EveryStepKeepsLog : Prop :=
  ∀ s t : State, step s = .next t → s.logInOrder → t.logInOrder

/-- The properties that every step keeps hold after a power-on reset. -/
def Obligations.KeptPropertiesHoldAtReset : Prop :=
  State.reset.withinBudget ∧ State.reset.heatersNeedBlower ∧ State.reset.grantsFollowStates ∧
  State.reset.grantsLawful ∧ State.reset.runTable ∧ State.reset.envelopeTable ∧ State.reset.trackerTable ∧
  State.reset.banksInRange ∧ State.reset.pendingMasked ∧ State.reset.logInOrder
end

