-- ==== Sys2Proof/Laws/State.lean ====
section
/-! SUPPORT. Reading after writing: the collections of one value per port and per load, and for each shared operation the
fields of State that it leaves alone. -/

namespace Sys2Proof

/-! ### Collections -/

@[simp] theorem PerPort.get_set_self {α : Type} (x : PerPort α) (p : Port) (v : α) : (x.set p v).get p = v := by
  cases p <;> rfl

theorem PerPort.get_set {α : Type} (x : PerPort α) (p q : Port) (v : α) :
    (x.set p v).get q = if q = p then v else x.get q := by
  cases p <;> cases q <;> rfl

@[simp] theorem PerPort.get_set_ne {α : Type} (x : PerPort α) {p q : Port} (v : α) (h : q ≠ p) :
    (x.set p v).get q = x.get q := by
  simp [PerPort.get_set, h]

@[simp] theorem PerPort.set_set {α : Type} (x : PerPort α) (p : Port) (v w : α) : (x.set p v).set p w = x.set p w := by
  cases p <;> rfl

@[simp] theorem PerPort.set_get {α : Type} (x : PerPort α) (p : Port) : x.set p (x.get p) = x := by
  cases p <;> rfl

@[simp] theorem PerPort.get_ofFn {α : Type} (f : Port → α) (p : Port) : (PerPort.ofFn f).get p = f p := by
  cases p <;> rfl

@[simp] theorem PerPort.get_all {α : Type} (v : α) (p : Port) : (PerPort.all v).get p = v := by
  cases p <;> rfl

@[ext] theorem PerPort.ext_get {α : Type} {x y : PerPort α} (h : ∀ p, x.get p = y.get p) : x = y := by
  obtain ⟨a, b, c⟩ := x
  have h1 := h .supply
  have h2 := h .climate
  have h3 := h .dispatch
  simp only [PerPort.get] at h1 h2 h3
  simp [h1, h2, h3]

@[simp] theorem PerLoad.get_set_self {α : Type} (x : PerLoad α) (l : Load) (v : α) : (x.set l v).get l = v := by
  cases l <;> rfl

theorem PerLoad.get_set {α : Type} (x : PerLoad α) (l m : Load) (v : α) :
    (x.set l v).get m = if m = l then v else x.get m := by
  cases l <;> cases m <;> rfl

@[simp] theorem PerLoad.get_set_ne {α : Type} (x : PerLoad α) {l m : Load} (v : α) (h : m ≠ l) :
    (x.set l v).get m = x.get m := by
  simp [PerLoad.get_set, h]

@[simp] theorem PerLoad.get_ofFn {α : Type} (f : Load → α) (l : Load) : (PerLoad.ofFn f).get l = f l := by
  cases l <;> rfl

@[simp] theorem PerLoad.get_all {α : Type} (v : α) (l : Load) : (PerLoad.all v).get l = v := by
  cases l <;> rfl

@[ext] theorem PerLoad.ext_get {α : Type} {x y : PerLoad α} (h : ∀ l, x.get l = y.get l) : x = y := by
  obtain ⟨a, b, c, d, e, f⟩ := x
  have h1 := h .blw
  have h2 := h .hpc
  have h3 := h .air
  have h4 := h .scr
  have h5 := h .seat
  have h6 := h .bat
  simp only [PerLoad.get] at h1 h2 h3 h4 h5 h6
  simp [h1, h2, h3, h4, h5, h6]

namespace Machine

/-! ### What the shared operations leave alone -/

/-! `raise` writes router. -/

@[simp] theorem raise_run (k : EventKind) (s : State) : (raise k s).run = s.run := rfl
@[simp] theorem raise_plan (k : EventKind) (s : State) : (raise k s).plan = s.plan := rfl
@[simp] theorem raise_slots (k : EventKind) (s : State) : (raise k s).slots = s.slots := rfl
@[simp] theorem raise_loads (k : EventKind) (s : State) : (raise k s).loads = s.loads := rfl
@[simp] theorem raise_power (k : EventKind) (s : State) : (raise k s).power = s.power := rfl
@[simp] theorem raise_track (k : EventKind) (s : State) : (raise k s).track = s.track := rfl
@[simp] theorem raise_store (k : EventKind) (s : State) : (raise k s).store = s.store := rfl
@[simp] theorem raise_port (k : EventKind) (s : State) : (raise k s).port = s.port := rfl
@[simp] theorem raise_bus (k : EventKind) (s : State) : (raise k s).bus = s.bus := rfl
@[simp] theorem raise_log (k : EventKind) (s : State) : (raise k s).log = s.log := rfl
@[simp] theorem raise_resetting (k : EventKind) (s : State) : (raise k s).resetting = s.resetting := rfl
@[simp] theorem raise_pending (k : EventKind) (s : State) : (raise k s).pending = s.pending := rfl

/-! `raiseAt` writes router. -/

@[simp] theorem raiseAt_run (q : Port) (k : EventKind) (s : State) : (raiseAt q k s).run = s.run := rfl
@[simp] theorem raiseAt_plan (q : Port) (k : EventKind) (s : State) : (raiseAt q k s).plan = s.plan := rfl
@[simp] theorem raiseAt_slots (q : Port) (k : EventKind) (s : State) : (raiseAt q k s).slots = s.slots := rfl
@[simp] theorem raiseAt_loads (q : Port) (k : EventKind) (s : State) : (raiseAt q k s).loads = s.loads := rfl
@[simp] theorem raiseAt_power (q : Port) (k : EventKind) (s : State) : (raiseAt q k s).power = s.power := rfl
@[simp] theorem raiseAt_track (q : Port) (k : EventKind) (s : State) : (raiseAt q k s).track = s.track := rfl
@[simp] theorem raiseAt_store (q : Port) (k : EventKind) (s : State) : (raiseAt q k s).store = s.store := rfl
@[simp] theorem raiseAt_port (q : Port) (k : EventKind) (s : State) : (raiseAt q k s).port = s.port := rfl
@[simp] theorem raiseAt_bus (q : Port) (k : EventKind) (s : State) : (raiseAt q k s).bus = s.bus := rfl
@[simp] theorem raiseAt_log (q : Port) (k : EventKind) (s : State) : (raiseAt q k s).log = s.log := rfl
@[simp] theorem raiseAt_resetting (q : Port) (k : EventKind) (s : State) : (raiseAt q k s).resetting = s.resetting := rfl
@[simp] theorem raiseAt_pending (q : Port) (k : EventKind) (s : State) : (raiseAt q k s).pending = s.pending := rfl

/-! `issueFrom` writes loads, router. -/

@[simp] theorem issueFrom_run (r : LoadRecord) (h : Handed) (s : State) : (issueFrom r h s).run = s.run := rfl
@[simp] theorem issueFrom_plan (r : LoadRecord) (h : Handed) (s : State) : (issueFrom r h s).plan = s.plan := rfl
@[simp] theorem issueFrom_slots (r : LoadRecord) (h : Handed) (s : State) : (issueFrom r h s).slots = s.slots := rfl
@[simp] theorem issueFrom_power (r : LoadRecord) (h : Handed) (s : State) : (issueFrom r h s).power = s.power := rfl
@[simp] theorem issueFrom_track (r : LoadRecord) (h : Handed) (s : State) : (issueFrom r h s).track = s.track := rfl
@[simp] theorem issueFrom_store (r : LoadRecord) (h : Handed) (s : State) : (issueFrom r h s).store = s.store := rfl
@[simp] theorem issueFrom_port (r : LoadRecord) (h : Handed) (s : State) : (issueFrom r h s).port = s.port := rfl
@[simp] theorem issueFrom_bus (r : LoadRecord) (h : Handed) (s : State) : (issueFrom r h s).bus = s.bus := rfl
@[simp] theorem issueFrom_log (r : LoadRecord) (h : Handed) (s : State) : (issueFrom r h s).log = s.log := rfl
@[simp] theorem issueFrom_resetting (r : LoadRecord) (h : Handed) (s : State) : (issueFrom r h s).resetting = s.resetting := rfl
@[simp] theorem issueFrom_pending (r : LoadRecord) (h : Handed) (s : State) : (issueFrom r h s).pending = s.pending := rfl

/-! `issue` writes loads, router. -/

@[simp] theorem issue_run (h : Handed) (s : State) : (issue h s).run = s.run := rfl
@[simp] theorem issue_plan (h : Handed) (s : State) : (issue h s).plan = s.plan := rfl
@[simp] theorem issue_slots (h : Handed) (s : State) : (issue h s).slots = s.slots := rfl
@[simp] theorem issue_power (h : Handed) (s : State) : (issue h s).power = s.power := rfl
@[simp] theorem issue_track (h : Handed) (s : State) : (issue h s).track = s.track := rfl
@[simp] theorem issue_store (h : Handed) (s : State) : (issue h s).store = s.store := rfl
@[simp] theorem issue_port (h : Handed) (s : State) : (issue h s).port = s.port := rfl
@[simp] theorem issue_bus (h : Handed) (s : State) : (issue h s).bus = s.bus := rfl
@[simp] theorem issue_log (h : Handed) (s : State) : (issue h s).log = s.log := rfl
@[simp] theorem issue_resetting (h : Handed) (s : State) : (issue h s).resetting = s.resetting := rfl
@[simp] theorem issue_pending (h : Handed) (s : State) : (issue h s).pending = s.pending := rfl

/-! `issueZero` writes loads, router. -/

@[simp] theorem issueZero_run (s : State) : (issueZero s).run = s.run := rfl
@[simp] theorem issueZero_plan (s : State) : (issueZero s).plan = s.plan := rfl
@[simp] theorem issueZero_slots (s : State) : (issueZero s).slots = s.slots := rfl
@[simp] theorem issueZero_power (s : State) : (issueZero s).power = s.power := rfl
@[simp] theorem issueZero_track (s : State) : (issueZero s).track = s.track := rfl
@[simp] theorem issueZero_store (s : State) : (issueZero s).store = s.store := rfl
@[simp] theorem issueZero_port (s : State) : (issueZero s).port = s.port := rfl
@[simp] theorem issueZero_bus (s : State) : (issueZero s).bus = s.bus := rfl
@[simp] theorem issueZero_log (s : State) : (issueZero s).log = s.log := rfl
@[simp] theorem issueZero_resetting (s : State) : (issueZero s).resetting = s.resetting := rfl
@[simp] theorem issueZero_pending (s : State) : (issueZero s).pending = s.pending := rfl

/-! `countShed` writes plan. -/

@[simp] theorem countShed_run (s : State) : (countShed s).run = s.run := by
  unfold countShed; split <;> rfl
@[simp] theorem countShed_slots (s : State) : (countShed s).slots = s.slots := by
  unfold countShed; split <;> rfl
@[simp] theorem countShed_loads (s : State) : (countShed s).loads = s.loads := by
  unfold countShed; split <;> rfl
@[simp] theorem countShed_power (s : State) : (countShed s).power = s.power := by
  unfold countShed; split <;> rfl
@[simp] theorem countShed_track (s : State) : (countShed s).track = s.track := by
  unfold countShed; split <;> rfl
@[simp] theorem countShed_store (s : State) : (countShed s).store = s.store := by
  unfold countShed; split <;> rfl
@[simp] theorem countShed_router (s : State) : (countShed s).router = s.router := by
  unfold countShed; split <;> rfl
@[simp] theorem countShed_port (s : State) : (countShed s).port = s.port := by
  unfold countShed; split <;> rfl
@[simp] theorem countShed_bus (s : State) : (countShed s).bus = s.bus := by
  unfold countShed; split <;> rfl
@[simp] theorem countShed_log (s : State) : (countShed s).log = s.log := by
  unfold countShed; split <;> rfl
@[simp] theorem countShed_resetting (s : State) : (countShed s).resetting = s.resetting := by
  unfold countShed; split <;> rfl
@[simp] theorem countShed_pending (s : State) : (countShed s).pending = s.pending := by
  unfold countShed; split <;> rfl

/-! `shed` writes loads, router, plan, log. -/

@[simp] theorem shed_run (p : Profile) (s : State) : (shed p s).run = s.run := by
  simp [shed]
@[simp] theorem shed_slots (p : Profile) (s : State) : (shed p s).slots = s.slots := by
  simp [shed]
@[simp] theorem shed_power (p : Profile) (s : State) : (shed p s).power = s.power := by
  simp [shed]
@[simp] theorem shed_track (p : Profile) (s : State) : (shed p s).track = s.track := by
  simp [shed]
@[simp] theorem shed_store (p : Profile) (s : State) : (shed p s).store = s.store := by
  simp [shed]
@[simp] theorem shed_port (p : Profile) (s : State) : (shed p s).port = s.port := by
  simp [shed]
@[simp] theorem shed_bus (p : Profile) (s : State) : (shed p s).bus = s.bus := by
  simp [shed]
@[simp] theorem shed_resetting (p : Profile) (s : State) : (shed p s).resetting = s.resetting := by
  simp [shed]
@[simp] theorem shed_pending (p : Profile) (s : State) : (shed p s).pending = s.pending := by
  simp [shed]

/-! `computeBudget` writes power, loads, router, plan, log. -/

@[simp] theorem computeBudget_run (p : Profile) (s : State) : (computeBudget p s).run = s.run := by
  unfold computeBudget; dsimp only; split <;> simp
@[simp] theorem computeBudget_slots (p : Profile) (s : State) : (computeBudget p s).slots = s.slots := by
  unfold computeBudget; dsimp only; split <;> simp
@[simp] theorem computeBudget_track (p : Profile) (s : State) : (computeBudget p s).track = s.track := by
  unfold computeBudget; dsimp only; split <;> simp
@[simp] theorem computeBudget_store (p : Profile) (s : State) : (computeBudget p s).store = s.store := by
  unfold computeBudget; dsimp only; split <;> simp
@[simp] theorem computeBudget_port (p : Profile) (s : State) : (computeBudget p s).port = s.port := by
  unfold computeBudget; dsimp only; split <;> simp
@[simp] theorem computeBudget_bus (p : Profile) (s : State) : (computeBudget p s).bus = s.bus := by
  unfold computeBudget; dsimp only; split <;> simp
@[simp] theorem computeBudget_resetting (p : Profile) (s : State) : (computeBudget p s).resetting = s.resetting := by
  unfold computeBudget; dsimp only; split <;> simp
@[simp] theorem computeBudget_pending (p : Profile) (s : State) : (computeBudget p s).pending = s.pending := by
  unfold computeBudget; dsimp only; split <;> simp

/-! `reexamine` writes power, loads, router, plan, log. -/

@[simp] theorem reexamine_run (p : Profile) (s : State) : (reexamine p s).run = s.run := by
  unfold reexamine; dsimp only; split <;> simp
@[simp] theorem reexamine_slots (p : Profile) (s : State) : (reexamine p s).slots = s.slots := by
  unfold reexamine; dsimp only; split <;> simp
@[simp] theorem reexamine_track (p : Profile) (s : State) : (reexamine p s).track = s.track := by
  unfold reexamine; dsimp only; split <;> simp
@[simp] theorem reexamine_store (p : Profile) (s : State) : (reexamine p s).store = s.store := by
  unfold reexamine; dsimp only; split <;> simp
@[simp] theorem reexamine_port (p : Profile) (s : State) : (reexamine p s).port = s.port := by
  unfold reexamine; dsimp only; split <;> simp
@[simp] theorem reexamine_bus (p : Profile) (s : State) : (reexamine p s).bus = s.bus := by
  unfold reexamine; dsimp only; split <;> simp
@[simp] theorem reexamine_resetting (p : Profile) (s : State) : (reexamine p s).resetting = s.resetting := by
  unfold reexamine; dsimp only; split <;> simp
@[simp] theorem reexamine_pending (p : Profile) (s : State) : (reexamine p s).pending = s.pending := by
  unfold reexamine; dsimp only; split <;> simp

/-! `setReadiness` writes track, router. -/

@[simp] theorem setReadiness_run (c : Readiness) (m : Int) (s : State) : (setReadiness c m s).run = s.run := by
  unfold setReadiness; dsimp only; split <;> simp
@[simp] theorem setReadiness_plan (c : Readiness) (m : Int) (s : State) : (setReadiness c m s).plan = s.plan := by
  unfold setReadiness; dsimp only; split <;> simp
@[simp] theorem setReadiness_slots (c : Readiness) (m : Int) (s : State) : (setReadiness c m s).slots = s.slots := by
  unfold setReadiness; dsimp only; split <;> simp
@[simp] theorem setReadiness_loads (c : Readiness) (m : Int) (s : State) : (setReadiness c m s).loads = s.loads := by
  unfold setReadiness; dsimp only; split <;> simp
@[simp] theorem setReadiness_power (c : Readiness) (m : Int) (s : State) : (setReadiness c m s).power = s.power := by
  unfold setReadiness; dsimp only; split <;> simp
@[simp] theorem setReadiness_store (c : Readiness) (m : Int) (s : State) : (setReadiness c m s).store = s.store := by
  unfold setReadiness; dsimp only; split <;> simp
@[simp] theorem setReadiness_port (c : Readiness) (m : Int) (s : State) : (setReadiness c m s).port = s.port := by
  unfold setReadiness; dsimp only; split <;> simp
@[simp] theorem setReadiness_bus (c : Readiness) (m : Int) (s : State) : (setReadiness c m s).bus = s.bus := by
  unfold setReadiness; dsimp only; split <;> simp
@[simp] theorem setReadiness_log (c : Readiness) (m : Int) (s : State) : (setReadiness c m s).log = s.log := by
  unfold setReadiness; dsimp only; split <;> simp
@[simp] theorem setReadiness_resetting (c : Readiness) (m : Int) (s : State) : (setReadiness c m s).resetting = s.resetting := by
  unfold setReadiness; dsimp only; split <;> simp
@[simp] theorem setReadiness_pending (c : Readiness) (m : Int) (s : State) : (setReadiness c m s).pending = s.pending := by
  unfold setReadiness; dsimp only; split <;> simp

/-! `forecast` writes track, router. -/

@[simp] theorem forecast_run (p : Profile) (t : Int) (h : Option Nat) (s : State) : (forecast p t h s).run = s.run := by
  simp [forecast]
@[simp] theorem forecast_plan (p : Profile) (t : Int) (h : Option Nat) (s : State) : (forecast p t h s).plan = s.plan := by
  simp [forecast]
@[simp] theorem forecast_slots (p : Profile) (t : Int) (h : Option Nat) (s : State) : (forecast p t h s).slots = s.slots := by
  simp [forecast]
@[simp] theorem forecast_loads (p : Profile) (t : Int) (h : Option Nat) (s : State) : (forecast p t h s).loads = s.loads := by
  simp [forecast]
@[simp] theorem forecast_power (p : Profile) (t : Int) (h : Option Nat) (s : State) : (forecast p t h s).power = s.power := by
  simp [forecast]
@[simp] theorem forecast_store (p : Profile) (t : Int) (h : Option Nat) (s : State) : (forecast p t h s).store = s.store := by
  simp [forecast]
@[simp] theorem forecast_port (p : Profile) (t : Int) (h : Option Nat) (s : State) : (forecast p t h s).port = s.port := by
  simp [forecast]
@[simp] theorem forecast_bus (p : Profile) (t : Int) (h : Option Nat) (s : State) : (forecast p t h s).bus = s.bus := by
  simp [forecast]
@[simp] theorem forecast_log (p : Profile) (t : Int) (h : Option Nat) (s : State) : (forecast p t h s).log = s.log := by
  simp [forecast]
@[simp] theorem forecast_resetting (p : Profile) (t : Int) (h : Option Nat) (s : State) : (forecast p t h s).resetting = s.resetting := by
  simp [forecast]
@[simp] theorem forecast_pending (p : Profile) (t : Int) (h : Option Nat) (s : State) : (forecast p t h s).pending = s.pending := by
  simp [forecast]

/-! `allocateSlot` writes plan, slots, loads, router. -/

@[simp] theorem allocateSlot_run (n : Nat) (s : State) : (allocateSlot n s).run = s.run := by
  unfold allocateSlot; split
  · rfl
  · split <;> simp
@[simp] theorem allocateSlot_power (n : Nat) (s : State) : (allocateSlot n s).power = s.power := by
  unfold allocateSlot; split
  · rfl
  · split <;> simp
@[simp] theorem allocateSlot_track (n : Nat) (s : State) : (allocateSlot n s).track = s.track := by
  unfold allocateSlot; split
  · rfl
  · split <;> simp
@[simp] theorem allocateSlot_store (n : Nat) (s : State) : (allocateSlot n s).store = s.store := by
  unfold allocateSlot; split
  · rfl
  · split <;> simp
@[simp] theorem allocateSlot_port (n : Nat) (s : State) : (allocateSlot n s).port = s.port := by
  unfold allocateSlot; split
  · rfl
  · split <;> simp
@[simp] theorem allocateSlot_bus (n : Nat) (s : State) : (allocateSlot n s).bus = s.bus := by
  unfold allocateSlot; split
  · rfl
  · split <;> simp
@[simp] theorem allocateSlot_log (n : Nat) (s : State) : (allocateSlot n s).log = s.log := by
  unfold allocateSlot; split
  · rfl
  · split <;> simp
@[simp] theorem allocateSlot_resetting (n : Nat) (s : State) : (allocateSlot n s).resetting = s.resetting := by
  unfold allocateSlot; split
  · rfl
  · split <;> simp
@[simp] theorem allocateSlot_pending (n : Nat) (s : State) : (allocateSlot n s).pending = s.pending := by
  unfold allocateSlot; split
  · rfl
  · split <;> simp

/-! `closeSlot` writes plan, slots, router. -/

@[simp] theorem closeSlot_run (s : State) : (closeSlot s).run = s.run := by
  unfold closeSlot; split <;> simp
@[simp] theorem closeSlot_loads (s : State) : (closeSlot s).loads = s.loads := by
  unfold closeSlot; split <;> simp
@[simp] theorem closeSlot_power (s : State) : (closeSlot s).power = s.power := by
  unfold closeSlot; split <;> simp
@[simp] theorem closeSlot_track (s : State) : (closeSlot s).track = s.track := by
  unfold closeSlot; split <;> simp
@[simp] theorem closeSlot_store (s : State) : (closeSlot s).store = s.store := by
  unfold closeSlot; split <;> simp
@[simp] theorem closeSlot_port (s : State) : (closeSlot s).port = s.port := by
  unfold closeSlot; split <;> simp
@[simp] theorem closeSlot_bus (s : State) : (closeSlot s).bus = s.bus := by
  unfold closeSlot; split <;> simp
@[simp] theorem closeSlot_log (s : State) : (closeSlot s).log = s.log := by
  unfold closeSlot; split <;> simp
@[simp] theorem closeSlot_resetting (s : State) : (closeSlot s).resetting = s.resetting := by
  unfold closeSlot; split <;> simp
@[simp] theorem closeSlot_pending (s : State) : (closeSlot s).pending = s.pending := by
  unfold closeSlot; split <;> simp

/-! `holdPending` writes run. -/

@[simp] theorem holdPending_plan (s : State) : (holdPending s).plan = s.plan := rfl
@[simp] theorem holdPending_slots (s : State) : (holdPending s).slots = s.slots := rfl
@[simp] theorem holdPending_loads (s : State) : (holdPending s).loads = s.loads := rfl
@[simp] theorem holdPending_power (s : State) : (holdPending s).power = s.power := rfl
@[simp] theorem holdPending_track (s : State) : (holdPending s).track = s.track := rfl
@[simp] theorem holdPending_store (s : State) : (holdPending s).store = s.store := rfl
@[simp] theorem holdPending_router (s : State) : (holdPending s).router = s.router := rfl
@[simp] theorem holdPending_port (s : State) : (holdPending s).port = s.port := rfl
@[simp] theorem holdPending_bus (s : State) : (holdPending s).bus = s.bus := rfl
@[simp] theorem holdPending_log (s : State) : (holdPending s).log = s.log := rfl
@[simp] theorem holdPending_resetting (s : State) : (holdPending s).resetting = s.resetting := rfl
@[simp] theorem holdPending_pending (s : State) : (holdPending s).pending = s.pending := rfl

/-! `releaseHeld` writes run. -/

@[simp] theorem releaseHeld_plan (s : State) : (releaseHeld s).plan = s.plan := rfl
@[simp] theorem releaseHeld_slots (s : State) : (releaseHeld s).slots = s.slots := rfl
@[simp] theorem releaseHeld_loads (s : State) : (releaseHeld s).loads = s.loads := rfl
@[simp] theorem releaseHeld_power (s : State) : (releaseHeld s).power = s.power := rfl
@[simp] theorem releaseHeld_track (s : State) : (releaseHeld s).track = s.track := rfl
@[simp] theorem releaseHeld_store (s : State) : (releaseHeld s).store = s.store := rfl
@[simp] theorem releaseHeld_router (s : State) : (releaseHeld s).router = s.router := rfl
@[simp] theorem releaseHeld_port (s : State) : (releaseHeld s).port = s.port := rfl
@[simp] theorem releaseHeld_bus (s : State) : (releaseHeld s).bus = s.bus := rfl
@[simp] theorem releaseHeld_log (s : State) : (releaseHeld s).log = s.log := rfl
@[simp] theorem releaseHeld_resetting (s : State) : (releaseHeld s).resetting = s.resetting := rfl
@[simp] theorem releaseHeld_pending (s : State) : (releaseHeld s).pending = s.pending := rfl

/-! `trackerIdle` writes track. -/

@[simp] theorem trackerIdle_run (s : State) : (trackerIdle s).run = s.run := rfl
@[simp] theorem trackerIdle_plan (s : State) : (trackerIdle s).plan = s.plan := rfl
@[simp] theorem trackerIdle_slots (s : State) : (trackerIdle s).slots = s.slots := rfl
@[simp] theorem trackerIdle_loads (s : State) : (trackerIdle s).loads = s.loads := rfl
@[simp] theorem trackerIdle_power (s : State) : (trackerIdle s).power = s.power := rfl
@[simp] theorem trackerIdle_store (s : State) : (trackerIdle s).store = s.store := rfl
@[simp] theorem trackerIdle_router (s : State) : (trackerIdle s).router = s.router := rfl
@[simp] theorem trackerIdle_port (s : State) : (trackerIdle s).port = s.port := rfl
@[simp] theorem trackerIdle_bus (s : State) : (trackerIdle s).bus = s.bus := rfl
@[simp] theorem trackerIdle_log (s : State) : (trackerIdle s).log = s.log := rfl
@[simp] theorem trackerIdle_resetting (s : State) : (trackerIdle s).resetting = s.resetting := rfl
@[simp] theorem trackerIdle_pending (s : State) : (trackerIdle s).pending = s.pending := rfl

/-! `declareSensorLoss` writes track, router. -/

@[simp] theorem declareSensorLoss_run (s : State) : (declareSensorLoss s).run = s.run := rfl
@[simp] theorem declareSensorLoss_plan (s : State) : (declareSensorLoss s).plan = s.plan := rfl
@[simp] theorem declareSensorLoss_slots (s : State) : (declareSensorLoss s).slots = s.slots := rfl
@[simp] theorem declareSensorLoss_loads (s : State) : (declareSensorLoss s).loads = s.loads := rfl
@[simp] theorem declareSensorLoss_power (s : State) : (declareSensorLoss s).power = s.power := rfl
@[simp] theorem declareSensorLoss_store (s : State) : (declareSensorLoss s).store = s.store := rfl
@[simp] theorem declareSensorLoss_port (s : State) : (declareSensorLoss s).port = s.port := rfl
@[simp] theorem declareSensorLoss_bus (s : State) : (declareSensorLoss s).bus = s.bus := rfl
@[simp] theorem declareSensorLoss_log (s : State) : (declareSensorLoss s).log = s.log := rfl
@[simp] theorem declareSensorLoss_resetting (s : State) : (declareSensorLoss s).resetting = s.resetting := rfl
@[simp] theorem declareSensorLoss_pending (s : State) : (declareSensorLoss s).pending = s.pending := rfl

/-! `restartTracking` writes track, router. -/

@[simp] theorem restartTracking_run (h : Heating) (s : State) : (restartTracking h s).run = s.run := by
  unfold restartTracking; dsimp only; split <;> rfl
@[simp] theorem restartTracking_plan (h : Heating) (s : State) : (restartTracking h s).plan = s.plan := by
  unfold restartTracking; dsimp only; split <;> rfl
@[simp] theorem restartTracking_slots (h : Heating) (s : State) : (restartTracking h s).slots = s.slots := by
  unfold restartTracking; dsimp only; split <;> rfl
@[simp] theorem restartTracking_loads (h : Heating) (s : State) : (restartTracking h s).loads = s.loads := by
  unfold restartTracking; dsimp only; split <;> rfl
@[simp] theorem restartTracking_power (h : Heating) (s : State) : (restartTracking h s).power = s.power := by
  unfold restartTracking; dsimp only; split <;> rfl
@[simp] theorem restartTracking_store (h : Heating) (s : State) : (restartTracking h s).store = s.store := by
  unfold restartTracking; dsimp only; split <;> rfl
@[simp] theorem restartTracking_port (h : Heating) (s : State) : (restartTracking h s).port = s.port := by
  unfold restartTracking; dsimp only; split <;> rfl
@[simp] theorem restartTracking_bus (h : Heating) (s : State) : (restartTracking h s).bus = s.bus := by
  unfold restartTracking; dsimp only; split <;> rfl
@[simp] theorem restartTracking_log (h : Heating) (s : State) : (restartTracking h s).log = s.log := by
  unfold restartTracking; dsimp only; split <;> rfl
@[simp] theorem restartTracking_resetting (h : Heating) (s : State) : (restartTracking h s).resetting = s.resetting := by
  unfold restartTracking; dsimp only; split <;> rfl
@[simp] theorem restartTracking_pending (h : Heating) (s : State) : (restartTracking h s).pending = s.pending := by
  unfold restartTracking; dsimp only; split <;> rfl

/-! `startGeneration` writes run, plan, log. -/

@[simp] theorem startGeneration_slots (o : Origin) (s : State) : (startGeneration o s).slots = s.slots := rfl
@[simp] theorem startGeneration_loads (o : Origin) (s : State) : (startGeneration o s).loads = s.loads := rfl
@[simp] theorem startGeneration_power (o : Origin) (s : State) : (startGeneration o s).power = s.power := rfl
@[simp] theorem startGeneration_track (o : Origin) (s : State) : (startGeneration o s).track = s.track := rfl
@[simp] theorem startGeneration_store (o : Origin) (s : State) : (startGeneration o s).store = s.store := rfl
@[simp] theorem startGeneration_router (o : Origin) (s : State) : (startGeneration o s).router = s.router := rfl
@[simp] theorem startGeneration_port (o : Origin) (s : State) : (startGeneration o s).port = s.port := rfl
@[simp] theorem startGeneration_bus (o : Origin) (s : State) : (startGeneration o s).bus = s.bus := rfl
@[simp] theorem startGeneration_log_start (s : State) :
    (startGeneration .start s).log = { s.log with countDue := s.log.countDue.atStart } := rfl
@[simp] theorem startGeneration_log_replan (s : State) : (startGeneration .replan s).log = s.log := rfl
@[simp] theorem startGeneration_resetting (o : Origin) (s : State) : (startGeneration o s).resetting = s.resetting := rfl
@[simp] theorem startGeneration_pending (o : Origin) (s : State) : (startGeneration o s).pending = s.pending := rfl

/-! `scheduleCheck` writes power, loads, router, plan, log, track, run. -/

@[simp] theorem scheduleCheck_slots (s : State) : (scheduleCheck s).slots = s.slots := by
  unfold scheduleCheck; split <;> try rfl
  dsimp only; split <;> simp
@[simp] theorem scheduleCheck_store (s : State) : (scheduleCheck s).store = s.store := by
  unfold scheduleCheck; split <;> try rfl
  dsimp only; split <;> simp
@[simp] theorem scheduleCheck_port (s : State) : (scheduleCheck s).port = s.port := by
  unfold scheduleCheck; split <;> try rfl
  dsimp only; split <;> simp
@[simp] theorem scheduleCheck_bus (s : State) : (scheduleCheck s).bus = s.bus := by
  unfold scheduleCheck; split <;> try rfl
  dsimp only; split <;> simp
@[simp] theorem scheduleCheck_resetting (s : State) : (scheduleCheck s).resetting = s.resetting := by
  unfold scheduleCheck; split <;> try rfl
  dsimp only; split <;> simp
@[simp] theorem scheduleCheck_pending (s : State) : (scheduleCheck s).pending = s.pending := by
  unfold scheduleCheck; split <;> try rfl
  dsimp only; split <;> simp

/-! `suspend` writes power, loads, router, plan, log, track, run, slots. -/

@[simp] theorem suspend_store (s : State) : (suspend s).store = s.store := by
  simp [suspend]
@[simp] theorem suspend_port (s : State) : (suspend s).port = s.port := by
  simp [suspend]
@[simp] theorem suspend_bus (s : State) : (suspend s).bus = s.bus := by
  simp [suspend]
@[simp] theorem suspend_resetting (s : State) : (suspend s).resetting = s.resetting := by
  simp [suspend]
@[simp] theorem suspend_pending (s : State) : (suspend s).pending = s.pending := by
  simp [suspend]

/-! `replan` writes power, loads, router, plan, log, track, run, slots. -/

@[simp] theorem replan_store (s : State) : (replan s).store = s.store := by
  unfold replan; split <;> simp
@[simp] theorem replan_port (s : State) : (replan s).port = s.port := by
  unfold replan; split <;> simp
@[simp] theorem replan_bus (s : State) : (replan s).bus = s.bus := by
  unfold replan; split <;> simp
@[simp] theorem replan_resetting (s : State) : (replan s).resetting = s.resetting := by
  unfold replan; split <;> simp
@[simp] theorem replan_pending (s : State) : (replan s).pending = s.pending := by
  unfold replan; split <;> simp

/-! `appendEntry` writes log, run. -/

@[simp] theorem appendEntry_plan (e : OutcomeEntry) (s : State) : (appendEntry e s).plan = s.plan := rfl
@[simp] theorem appendEntry_slots (e : OutcomeEntry) (s : State) : (appendEntry e s).slots = s.slots := rfl
@[simp] theorem appendEntry_loads (e : OutcomeEntry) (s : State) : (appendEntry e s).loads = s.loads := rfl
@[simp] theorem appendEntry_power (e : OutcomeEntry) (s : State) : (appendEntry e s).power = s.power := rfl
@[simp] theorem appendEntry_track (e : OutcomeEntry) (s : State) : (appendEntry e s).track = s.track := rfl
@[simp] theorem appendEntry_store (e : OutcomeEntry) (s : State) : (appendEntry e s).store = s.store := rfl
@[simp] theorem appendEntry_router (e : OutcomeEntry) (s : State) : (appendEntry e s).router = s.router := rfl
@[simp] theorem appendEntry_port (e : OutcomeEntry) (s : State) : (appendEntry e s).port = s.port := rfl
@[simp] theorem appendEntry_bus (e : OutcomeEntry) (s : State) : (appendEntry e s).bus = s.bus := rfl
@[simp] theorem appendEntry_resetting (e : OutcomeEntry) (s : State) : (appendEntry e s).resetting = s.resetting := rfl
@[simp] theorem appendEntry_pending (e : OutcomeEntry) (s : State) : (appendEntry e s).pending = s.pending := rfl

/-! `clearAccumulators` writes log. -/

@[simp] theorem clearAccumulators_run (s : State) : (clearAccumulators s).run = s.run := rfl
@[simp] theorem clearAccumulators_plan (s : State) : (clearAccumulators s).plan = s.plan := rfl
@[simp] theorem clearAccumulators_slots (s : State) : (clearAccumulators s).slots = s.slots := rfl
@[simp] theorem clearAccumulators_loads (s : State) : (clearAccumulators s).loads = s.loads := rfl
@[simp] theorem clearAccumulators_power (s : State) : (clearAccumulators s).power = s.power := rfl
@[simp] theorem clearAccumulators_track (s : State) : (clearAccumulators s).track = s.track := rfl
@[simp] theorem clearAccumulators_store (s : State) : (clearAccumulators s).store = s.store := rfl
@[simp] theorem clearAccumulators_router (s : State) : (clearAccumulators s).router = s.router := rfl
@[simp] theorem clearAccumulators_port (s : State) : (clearAccumulators s).port = s.port := rfl
@[simp] theorem clearAccumulators_bus (s : State) : (clearAccumulators s).bus = s.bus := rfl
@[simp] theorem clearAccumulators_resetting (s : State) : (clearAccumulators s).resetting = s.resetting := rfl
@[simp] theorem clearAccumulators_pending (s : State) : (clearAccumulators s).pending = s.pending := rfl

/-! `endRun` writes power, loads, router, plan, log, track, run, slots. -/

@[simp] theorem endRun_store (c : EndCause) (s : State) : (endRun c s).store = s.store := by
  simp [endRun]
@[simp] theorem endRun_port (c : EndCause) (s : State) : (endRun c s).port = s.port := by
  simp [endRun]
@[simp] theorem endRun_bus (c : EndCause) (s : State) : (endRun c s).bus = s.bus := by
  simp [endRun]
@[simp] theorem endRun_resetting (c : EndCause) (s : State) : (endRun c s).resetting = s.resetting := by
  simp [endRun]
@[simp] theorem endRun_pending (c : EndCause) (s : State) : (endRun c s).pending = s.pending := by
  simp [endRun]

/-! `enterIdle` writes track, router, run. -/

@[simp] theorem enterIdle_plan (s : State) : (enterIdle s).plan = s.plan := by
  simp [enterIdle]
@[simp] theorem enterIdle_slots (s : State) : (enterIdle s).slots = s.slots := by
  simp [enterIdle]
@[simp] theorem enterIdle_loads (s : State) : (enterIdle s).loads = s.loads := by
  simp [enterIdle]
@[simp] theorem enterIdle_power (s : State) : (enterIdle s).power = s.power := by
  simp [enterIdle]
@[simp] theorem enterIdle_store (s : State) : (enterIdle s).store = s.store := by
  simp [enterIdle]
@[simp] theorem enterIdle_port (s : State) : (enterIdle s).port = s.port := by
  simp [enterIdle]
@[simp] theorem enterIdle_bus (s : State) : (enterIdle s).bus = s.bus := by
  simp [enterIdle]
@[simp] theorem enterIdle_log (s : State) : (enterIdle s).log = s.log := by
  simp [enterIdle]
@[simp] theorem enterIdle_resetting (s : State) : (enterIdle s).resetting = s.resetting := by
  simp [enterIdle]
@[simp] theorem enterIdle_pending (s : State) : (enterIdle s).pending = s.pending := by
  simp [enterIdle]

/-! `reload` writes power, loads, router, plan, log, track, run. -/

@[simp] theorem reload_slots (s : State) : (reload s).slots = s.slots := by
  simp [reload]
@[simp] theorem reload_store (s : State) : (reload s).store = s.store := by
  simp [reload]
@[simp] theorem reload_port (s : State) : (reload s).port = s.port := by
  simp [reload]
@[simp] theorem reload_bus (s : State) : (reload s).bus = s.bus := by
  simp [reload]
@[simp] theorem reload_resetting (s : State) : (reload s).resetting = s.resetting := by
  simp [reload]
@[simp] theorem reload_pending (s : State) : (reload s).pending = s.pending := by
  simp [reload]

/-! `abortRun` writes power, loads, router, plan, log, track, run, slots. -/

@[simp] theorem abortRun_store (s : State) : (abortRun s).store = s.store := by
  unfold abortRun; split <;> simp
@[simp] theorem abortRun_port (s : State) : (abortRun s).port = s.port := by
  unfold abortRun; split <;> simp
@[simp] theorem abortRun_bus (s : State) : (abortRun s).bus = s.bus := by
  unfold abortRun; split <;> simp
@[simp] theorem abortRun_resetting (s : State) : (abortRun s).resetting = s.resetting := by
  unfold abortRun; split <;> simp
@[simp] theorem abortRun_pending (s : State) : (abortRun s).pending = s.pending := by
  unfold abortRun; split <;> simp

/-! `expire` writes power, loads, router, plan, log, track, run, slots. -/

@[simp] theorem expire_store (s : State) : (expire s).store = s.store := by
  unfold expire; dsimp only; split <;> split <;> simp
@[simp] theorem expire_port (s : State) : (expire s).port = s.port := by
  unfold expire; dsimp only; split <;> split <;> simp
@[simp] theorem expire_bus (s : State) : (expire s).bus = s.bus := by
  unfold expire; dsimp only; split <;> split <;> simp
@[simp] theorem expire_resetting (s : State) : (expire s).resetting = s.resetting := by
  unfold expire; dsimp only; split <;> split <;> simp
@[simp] theorem expire_pending (s : State) : (expire s).pending = s.pending := by
  unfold expire; dsimp only; split <;> split <;> simp

/-! `installPlan` writes plan, slots, log. -/

@[simp] theorem installPlan_run (r : PlanRecord) (s : State) : (installPlan r s).run = s.run := rfl
@[simp] theorem installPlan_loads (r : PlanRecord) (s : State) : (installPlan r s).loads = s.loads := rfl
@[simp] theorem installPlan_power (r : PlanRecord) (s : State) : (installPlan r s).power = s.power := rfl
@[simp] theorem installPlan_track (r : PlanRecord) (s : State) : (installPlan r s).track = s.track := rfl
@[simp] theorem installPlan_store (r : PlanRecord) (s : State) : (installPlan r s).store = s.store := rfl
@[simp] theorem installPlan_router (r : PlanRecord) (s : State) : (installPlan r s).router = s.router := rfl
@[simp] theorem installPlan_port (r : PlanRecord) (s : State) : (installPlan r s).port = s.port := rfl
@[simp] theorem installPlan_bus (r : PlanRecord) (s : State) : (installPlan r s).bus = s.bus := rfl
@[simp] theorem installPlan_resetting (r : PlanRecord) (s : State) : (installPlan r s).resetting = s.resetting := rfl
@[simp] theorem installPlan_pending (r : PlanRecord) (s : State) : (installPlan r s).pending = s.pending := rfl

/-! `loadScreenEnergy` writes slots. -/

@[simp] theorem loadScreenEnergy_run (p : Profile) (s : State) : (loadScreenEnergy p s).run = s.run := rfl
@[simp] theorem loadScreenEnergy_plan (p : Profile) (s : State) : (loadScreenEnergy p s).plan = s.plan := rfl
@[simp] theorem loadScreenEnergy_loads (p : Profile) (s : State) : (loadScreenEnergy p s).loads = s.loads := rfl
@[simp] theorem loadScreenEnergy_power (p : Profile) (s : State) : (loadScreenEnergy p s).power = s.power := rfl
@[simp] theorem loadScreenEnergy_track (p : Profile) (s : State) : (loadScreenEnergy p s).track = s.track := rfl
@[simp] theorem loadScreenEnergy_store (p : Profile) (s : State) : (loadScreenEnergy p s).store = s.store := rfl
@[simp] theorem loadScreenEnergy_router (p : Profile) (s : State) : (loadScreenEnergy p s).router = s.router := rfl
@[simp] theorem loadScreenEnergy_port (p : Profile) (s : State) : (loadScreenEnergy p s).port = s.port := rfl
@[simp] theorem loadScreenEnergy_bus (p : Profile) (s : State) : (loadScreenEnergy p s).bus = s.bus := rfl
@[simp] theorem loadScreenEnergy_log (p : Profile) (s : State) : (loadScreenEnergy p s).log = s.log := rfl
@[simp] theorem loadScreenEnergy_resetting (p : Profile) (s : State) : (loadScreenEnergy p s).resetting = s.resetting := rfl
@[simp] theorem loadScreenEnergy_pending (p : Profile) (s : State) : (loadScreenEnergy p s).pending = s.pending := rfl

/-! `enterRun` writes run. -/

@[simp] theorem enterRun_plan (p : Profile) (s : State) : (enterRun p s).plan = s.plan := rfl
@[simp] theorem enterRun_slots (p : Profile) (s : State) : (enterRun p s).slots = s.slots := rfl
@[simp] theorem enterRun_loads (p : Profile) (s : State) : (enterRun p s).loads = s.loads := rfl
@[simp] theorem enterRun_power (p : Profile) (s : State) : (enterRun p s).power = s.power := rfl
@[simp] theorem enterRun_track (p : Profile) (s : State) : (enterRun p s).track = s.track := rfl
@[simp] theorem enterRun_store (p : Profile) (s : State) : (enterRun p s).store = s.store := rfl
@[simp] theorem enterRun_router (p : Profile) (s : State) : (enterRun p s).router = s.router := rfl
@[simp] theorem enterRun_port (p : Profile) (s : State) : (enterRun p s).port = s.port := rfl
@[simp] theorem enterRun_bus (p : Profile) (s : State) : (enterRun p s).bus = s.bus := rfl
@[simp] theorem enterRun_log (p : Profile) (s : State) : (enterRun p s).log = s.log := rfl
@[simp] theorem enterRun_resetting (p : Profile) (s : State) : (enterRun p s).resetting = s.resetting := rfl
@[simp] theorem enterRun_pending (p : Profile) (s : State) : (enterRun p s).pending = s.pending := rfl

/-! `allocateCurrent` writes plan, slots, loads, router. -/

@[simp] theorem allocateCurrent_run (r : PlanRecord) (s : State) : (allocateCurrent r s).run = s.run := by
  unfold allocateCurrent; split <;> simp
@[simp] theorem allocateCurrent_power (r : PlanRecord) (s : State) : (allocateCurrent r s).power = s.power := by
  unfold allocateCurrent; split <;> simp
@[simp] theorem allocateCurrent_track (r : PlanRecord) (s : State) : (allocateCurrent r s).track = s.track := by
  unfold allocateCurrent; split <;> simp
@[simp] theorem allocateCurrent_store (r : PlanRecord) (s : State) : (allocateCurrent r s).store = s.store := by
  unfold allocateCurrent; split <;> simp
@[simp] theorem allocateCurrent_port (r : PlanRecord) (s : State) : (allocateCurrent r s).port = s.port := by
  unfold allocateCurrent; split <;> simp
@[simp] theorem allocateCurrent_bus (r : PlanRecord) (s : State) : (allocateCurrent r s).bus = s.bus := by
  unfold allocateCurrent; split <;> simp
@[simp] theorem allocateCurrent_log (r : PlanRecord) (s : State) : (allocateCurrent r s).log = s.log := by
  unfold allocateCurrent; split <;> simp
@[simp] theorem allocateCurrent_resetting (r : PlanRecord) (s : State) : (allocateCurrent r s).resetting = s.resetting := by
  unfold allocateCurrent; split <;> simp
@[simp] theorem allocateCurrent_pending (r : PlanRecord) (s : State) : (allocateCurrent r s).pending = s.pending := by
  unfold allocateCurrent; split <;> simp

/-! `raiseDone` writes router. -/

@[simp] theorem raiseDone_run (o : Option Origin) (s : State) : (raiseDone o s).run = s.run := by
  unfold raiseDone; dsimp only; split <;> simp
@[simp] theorem raiseDone_plan (o : Option Origin) (s : State) : (raiseDone o s).plan = s.plan := by
  unfold raiseDone; dsimp only; split <;> simp
@[simp] theorem raiseDone_slots (o : Option Origin) (s : State) : (raiseDone o s).slots = s.slots := by
  unfold raiseDone; dsimp only; split <;> simp
@[simp] theorem raiseDone_loads (o : Option Origin) (s : State) : (raiseDone o s).loads = s.loads := by
  unfold raiseDone; dsimp only; split <;> simp
@[simp] theorem raiseDone_power (o : Option Origin) (s : State) : (raiseDone o s).power = s.power := by
  unfold raiseDone; dsimp only; split <;> simp
@[simp] theorem raiseDone_track (o : Option Origin) (s : State) : (raiseDone o s).track = s.track := by
  unfold raiseDone; dsimp only; split <;> simp
@[simp] theorem raiseDone_store (o : Option Origin) (s : State) : (raiseDone o s).store = s.store := by
  unfold raiseDone; dsimp only; split <;> simp
@[simp] theorem raiseDone_port (o : Option Origin) (s : State) : (raiseDone o s).port = s.port := by
  unfold raiseDone; dsimp only; split <;> simp
@[simp] theorem raiseDone_bus (o : Option Origin) (s : State) : (raiseDone o s).bus = s.bus := by
  unfold raiseDone; dsimp only; split <;> simp
@[simp] theorem raiseDone_log (o : Option Origin) (s : State) : (raiseDone o s).log = s.log := by
  unfold raiseDone; dsimp only; split <;> simp
@[simp] theorem raiseDone_resetting (o : Option Origin) (s : State) : (raiseDone o s).resetting = s.resetting := by
  unfold raiseDone; dsimp only; split <;> simp
@[simp] theorem raiseDone_pending (o : Option Origin) (s : State) : (raiseDone o s).pending = s.pending := by
  unfold raiseDone; dsimp only; split <;> simp

/-! `completePlan` writes power, loads, router, plan, log, track, run, slots. -/

@[simp] theorem completePlan_store (c : Capture) (s : State) : (completePlan c s).store = s.store := by
  simp [completePlan]
@[simp] theorem completePlan_port (c : Capture) (s : State) : (completePlan c s).port = s.port := by
  simp [completePlan]
@[simp] theorem completePlan_bus (c : Capture) (s : State) : (completePlan c s).bus = s.bus := by
  simp [completePlan]
@[simp] theorem completePlan_resetting (c : Capture) (s : State) : (completePlan c s).resetting = s.resetting := by
  simp [completePlan]
@[simp] theorem completePlan_pending (c : Capture) (s : State) : (completePlan c s).pending = s.pending := by
  simp [completePlan]

end Machine

end Sys2Proof
end

