-- ==== Sys2Proof/Laws/Services.lean ====
section
/-! SUPPORT. For each service, and for each part of a Sensor Report and of an Actuator Status, the fields of State that it
leaves alone. -/

namespace Sys2Proof.Machine

/-! `storeReport` writes track. -/

@[simp] theorem storeReport_run (a b c : Option Int) (d : Bool) (s : State) : (storeReport a b c d s).run = s.run := rfl
@[simp] theorem storeReport_plan (a b c : Option Int) (d : Bool) (s : State) : (storeReport a b c d s).plan = s.plan := rfl
@[simp] theorem storeReport_slots (a b c : Option Int) (d : Bool) (s : State) : (storeReport a b c d s).slots = s.slots := rfl
@[simp] theorem storeReport_loads (a b c : Option Int) (d : Bool) (s : State) : (storeReport a b c d s).loads = s.loads := rfl
@[simp] theorem storeReport_power (a b c : Option Int) (d : Bool) (s : State) : (storeReport a b c d s).power = s.power := rfl
@[simp] theorem storeReport_store (a b c : Option Int) (d : Bool) (s : State) : (storeReport a b c d s).store = s.store := rfl
@[simp] theorem storeReport_router (a b c : Option Int) (d : Bool) (s : State) : (storeReport a b c d s).router = s.router := rfl
@[simp] theorem storeReport_port (a b c : Option Int) (d : Bool) (s : State) : (storeReport a b c d s).port = s.port := rfl
@[simp] theorem storeReport_bus (a b c : Option Int) (d : Bool) (s : State) : (storeReport a b c d s).bus = s.bus := rfl
@[simp] theorem storeReport_log (a b c : Option Int) (d : Bool) (s : State) : (storeReport a b c d s).log = s.log := rfl
@[simp] theorem storeReport_resetting (a b c : Option Int) (d : Bool) (s : State) : (storeReport a b c d s).resetting = s.resetting := rfl
@[simp] theorem storeReport_pending (a b c : Option Int) (d : Bool) (s : State) : (storeReport a b c d s).pending = s.pending := rfl

/-! `cabinReported` writes track, slots. -/

@[simp] theorem cabinReported_run (s : State) : (cabinReported s).run = s.run := rfl
@[simp] theorem cabinReported_plan (s : State) : (cabinReported s).plan = s.plan := rfl
@[simp] theorem cabinReported_loads (s : State) : (cabinReported s).loads = s.loads := rfl
@[simp] theorem cabinReported_power (s : State) : (cabinReported s).power = s.power := rfl
@[simp] theorem cabinReported_store (s : State) : (cabinReported s).store = s.store := rfl
@[simp] theorem cabinReported_router (s : State) : (cabinReported s).router = s.router := rfl
@[simp] theorem cabinReported_port (s : State) : (cabinReported s).port = s.port := rfl
@[simp] theorem cabinReported_bus (s : State) : (cabinReported s).bus = s.bus := rfl
@[simp] theorem cabinReported_log (s : State) : (cabinReported s).log = s.log := rfl
@[simp] theorem cabinReported_resetting (s : State) : (cabinReported s).resetting = s.resetting := rfl
@[simp] theorem cabinReported_pending (s : State) : (cabinReported s).pending = s.pending := rfl

/-! `openLoopReturn` writes track. -/

@[simp] theorem openLoopReturn_run (s : State) :
    (openLoopReturn s).run = s.run := by
  unfold openLoopReturn; split <;> rfl
@[simp] theorem openLoopReturn_plan (s : State) :
    (openLoopReturn s).plan = s.plan := by
  unfold openLoopReturn; split <;> rfl
@[simp] theorem openLoopReturn_slots (s : State) :
    (openLoopReturn s).slots = s.slots := by
  unfold openLoopReturn; split <;> rfl
@[simp] theorem openLoopReturn_loads (s : State) :
    (openLoopReturn s).loads = s.loads := by
  unfold openLoopReturn; split <;> rfl
@[simp] theorem openLoopReturn_power (s : State) :
    (openLoopReturn s).power = s.power := by
  unfold openLoopReturn; split <;> rfl
@[simp] theorem openLoopReturn_store (s : State) :
    (openLoopReturn s).store = s.store := by
  unfold openLoopReturn; split <;> rfl
@[simp] theorem openLoopReturn_router (s : State) :
    (openLoopReturn s).router = s.router := by
  unfold openLoopReturn; split <;> rfl
@[simp] theorem openLoopReturn_port (s : State) :
    (openLoopReturn s).port = s.port := by
  unfold openLoopReturn; split <;> rfl
@[simp] theorem openLoopReturn_bus (s : State) :
    (openLoopReturn s).bus = s.bus := by
  unfold openLoopReturn; split <;> rfl
@[simp] theorem openLoopReturn_log (s : State) :
    (openLoopReturn s).log = s.log := by
  unfold openLoopReturn; split <;> rfl
@[simp] theorem openLoopReturn_resetting (s : State) :
    (openLoopReturn s).resetting = s.resetting := by
  unfold openLoopReturn; split <;> rfl
@[simp] theorem openLoopReturn_pending (s : State) :
    (openLoopReturn s).pending = s.pending := by
  unfold openLoopReturn; split <;> rfl

/-! `loseTrack` writes power, loads, router, plan, log, track, run, slots. -/

@[simp] theorem loseTrack_store (s : State) :
    (loseTrack s).store = s.store := by
  unfold loseTrack; dsimp only; split <;> simp
@[simp] theorem loseTrack_port (s : State) :
    (loseTrack s).port = s.port := by
  unfold loseTrack; dsimp only; split <;> simp
@[simp] theorem loseTrack_bus (s : State) :
    (loseTrack s).bus = s.bus := by
  unfold loseTrack; dsimp only; split <;> simp
@[simp] theorem loseTrack_resetting (s : State) :
    (loseTrack s).resetting = s.resetting := by
  unfold loseTrack; dsimp only; split <;> simp
@[simp] theorem loseTrack_pending (s : State) :
    (loseTrack s).pending = s.pending := by
  unfold loseTrack; dsimp only; split <;> simp

/-! `acquireTrack` writes track, router. -/

@[simp] theorem acquireTrack_run (s : State) : (acquireTrack s).run = s.run := rfl
@[simp] theorem acquireTrack_plan (s : State) : (acquireTrack s).plan = s.plan := rfl
@[simp] theorem acquireTrack_slots (s : State) : (acquireTrack s).slots = s.slots := rfl
@[simp] theorem acquireTrack_loads (s : State) : (acquireTrack s).loads = s.loads := rfl
@[simp] theorem acquireTrack_power (s : State) : (acquireTrack s).power = s.power := rfl
@[simp] theorem acquireTrack_store (s : State) : (acquireTrack s).store = s.store := rfl
@[simp] theorem acquireTrack_port (s : State) : (acquireTrack s).port = s.port := rfl
@[simp] theorem acquireTrack_bus (s : State) : (acquireTrack s).bus = s.bus := rfl
@[simp] theorem acquireTrack_log (s : State) : (acquireTrack s).log = s.log := rfl
@[simp] theorem acquireTrack_resetting (s : State) : (acquireTrack s).resetting = s.resetting := rfl
@[simp] theorem acquireTrack_pending (s : State) : (acquireTrack s).pending = s.pending := rfl

/-! `judge` writes power, loads, router, plan, log, track, run, slots. -/

@[simp] theorem judge_store (d : Nat) (s : State) :
    (judge d s).store = s.store := by
  unfold judge; dsimp only; split <;> (repeat' split) <;> simp
@[simp] theorem judge_port (d : Nat) (s : State) :
    (judge d s).port = s.port := by
  unfold judge; dsimp only; split <;> (repeat' split) <;> simp
@[simp] theorem judge_bus (d : Nat) (s : State) :
    (judge d s).bus = s.bus := by
  unfold judge; dsimp only; split <;> (repeat' split) <;> simp
@[simp] theorem judge_resetting (d : Nat) (s : State) :
    (judge d s).resetting = s.resetting := by
  unfold judge; dsimp only; split <;> (repeat' split) <;> simp
@[simp] theorem judge_pending (d : Nat) (s : State) :
    (judge d s).pending = s.pending := by
  unfold judge; dsimp only; split <;> (repeat' split) <;> simp

/-! `judgeReport` writes power, loads, router, plan, log, track, run, slots. -/

@[simp] theorem judgeReport_store (t : Int) (s : State) :
    (judgeReport t s).store = s.store := by
  unfold judgeReport; split <;> simp
@[simp] theorem judgeReport_port (t : Int) (s : State) :
    (judgeReport t s).port = s.port := by
  unfold judgeReport; split <;> simp
@[simp] theorem judgeReport_bus (t : Int) (s : State) :
    (judgeReport t s).bus = s.bus := by
  unfold judgeReport; split <;> simp
@[simp] theorem judgeReport_resetting (t : Int) (s : State) :
    (judgeReport t s).resetting = s.resetting := by
  unfold judgeReport; split <;> simp
@[simp] theorem judgeReport_pending (t : Int) (s : State) :
    (judgeReport t s).pending = s.pending := by
  unfold judgeReport; split <;> simp

/-! `holdForDoor` writes track. -/

@[simp] theorem holdForDoor_run (s : State) :
    (holdForDoor s).run = s.run := by
  unfold holdForDoor; split <;> rfl
@[simp] theorem holdForDoor_plan (s : State) :
    (holdForDoor s).plan = s.plan := by
  unfold holdForDoor; split <;> rfl
@[simp] theorem holdForDoor_slots (s : State) :
    (holdForDoor s).slots = s.slots := by
  unfold holdForDoor; split <;> rfl
@[simp] theorem holdForDoor_loads (s : State) :
    (holdForDoor s).loads = s.loads := by
  unfold holdForDoor; split <;> rfl
@[simp] theorem holdForDoor_power (s : State) :
    (holdForDoor s).power = s.power := by
  unfold holdForDoor; split <;> rfl
@[simp] theorem holdForDoor_store (s : State) :
    (holdForDoor s).store = s.store := by
  unfold holdForDoor; split <;> rfl
@[simp] theorem holdForDoor_router (s : State) :
    (holdForDoor s).router = s.router := by
  unfold holdForDoor; split <;> rfl
@[simp] theorem holdForDoor_port (s : State) :
    (holdForDoor s).port = s.port := by
  unfold holdForDoor; split <;> rfl
@[simp] theorem holdForDoor_bus (s : State) :
    (holdForDoor s).bus = s.bus := by
  unfold holdForDoor; split <;> rfl
@[simp] theorem holdForDoor_log (s : State) :
    (holdForDoor s).log = s.log := by
  unfold holdForDoor; split <;> rfl
@[simp] theorem holdForDoor_resetting (s : State) :
    (holdForDoor s).resetting = s.resetting := by
  unfold holdForDoor; split <;> rfl
@[simp] theorem holdForDoor_pending (s : State) :
    (holdForDoor s).pending = s.pending := by
  unfold holdForDoor; split <;> rfl

/-! `releaseDoor` writes track. -/

@[simp] theorem releaseDoor_run (s : State) :
    (releaseDoor s).run = s.run := by
  unfold releaseDoor; split <;> rfl
@[simp] theorem releaseDoor_plan (s : State) :
    (releaseDoor s).plan = s.plan := by
  unfold releaseDoor; split <;> rfl
@[simp] theorem releaseDoor_slots (s : State) :
    (releaseDoor s).slots = s.slots := by
  unfold releaseDoor; split <;> rfl
@[simp] theorem releaseDoor_loads (s : State) :
    (releaseDoor s).loads = s.loads := by
  unfold releaseDoor; split <;> rfl
@[simp] theorem releaseDoor_power (s : State) :
    (releaseDoor s).power = s.power := by
  unfold releaseDoor; split <;> rfl
@[simp] theorem releaseDoor_store (s : State) :
    (releaseDoor s).store = s.store := by
  unfold releaseDoor; split <;> rfl
@[simp] theorem releaseDoor_router (s : State) :
    (releaseDoor s).router = s.router := by
  unfold releaseDoor; split <;> rfl
@[simp] theorem releaseDoor_port (s : State) :
    (releaseDoor s).port = s.port := by
  unfold releaseDoor; split <;> rfl
@[simp] theorem releaseDoor_bus (s : State) :
    (releaseDoor s).bus = s.bus := by
  unfold releaseDoor; split <;> rfl
@[simp] theorem releaseDoor_log (s : State) :
    (releaseDoor s).log = s.log := by
  unfold releaseDoor; split <;> rfl
@[simp] theorem releaseDoor_resetting (s : State) :
    (releaseDoor s).resetting = s.resetting := by
  unfold releaseDoor; split <;> rfl
@[simp] theorem releaseDoor_pending (s : State) :
    (releaseDoor s).pending = s.pending := by
  unfold releaseDoor; split <;> rfl

/-! `trackReport` writes power, loads, router, plan, log, track, run, slots. -/

@[simp] theorem trackReport_store (c : Option Int) (d : Bool) (s : State) :
    (trackReport c d s).store = s.store := by
  unfold trackReport; split
  · simp
  · split <;> simp
@[simp] theorem trackReport_port (c : Option Int) (d : Bool) (s : State) :
    (trackReport c d s).port = s.port := by
  unfold trackReport; split
  · simp
  · split <;> simp
@[simp] theorem trackReport_bus (c : Option Int) (d : Bool) (s : State) :
    (trackReport c d s).bus = s.bus := by
  unfold trackReport; split
  · simp
  · split <;> simp
@[simp] theorem trackReport_resetting (c : Option Int) (d : Bool) (s : State) :
    (trackReport c d s).resetting = s.resetting := by
  unfold trackReport; split
  · simp
  · split <;> simp
@[simp] theorem trackReport_pending (c : Option Int) (d : Bool) (s : State) :
    (trackReport c d s).pending = s.pending := by
  unfold trackReport; split
  · simp
  · split <;> simp

/-! `sensorArrival` writes power, loads, router, plan, log, track, run, slots. -/

@[simp] theorem sensorArrival_store (a b c : Option Int) (d : Bool) (s : State) :
    (sensorArrival a b c d s).store = s.store := by
  unfold sensorArrival; dsimp only; split <;> simp
@[simp] theorem sensorArrival_port (a b c : Option Int) (d : Bool) (s : State) :
    (sensorArrival a b c d s).port = s.port := by
  unfold sensorArrival; dsimp only; split <;> simp
@[simp] theorem sensorArrival_bus (a b c : Option Int) (d : Bool) (s : State) :
    (sensorArrival a b c d s).bus = s.bus := by
  unfold sensorArrival; dsimp only; split <;> simp
@[simp] theorem sensorArrival_resetting (a b c : Option Int) (d : Bool) (s : State) :
    (sensorArrival a b c d s).resetting = s.resetting := by
  unfold sensorArrival; dsimp only; split <;> simp
@[simp] theorem sensorArrival_pending (a b c : Option Int) (d : Bool) (s : State) :
    (sensorArrival a b c d s).pending = s.pending := by
  unfold sensorArrival; dsimp only; split <;> simp

/-! `acknowledge` writes loads. -/

@[simp] theorem acknowledge_run (q : Byte) (s : State) :
    (acknowledge q s).run = s.run := by
  unfold acknowledge; split <;> rfl
@[simp] theorem acknowledge_plan (q : Byte) (s : State) :
    (acknowledge q s).plan = s.plan := by
  unfold acknowledge; split <;> rfl
@[simp] theorem acknowledge_slots (q : Byte) (s : State) :
    (acknowledge q s).slots = s.slots := by
  unfold acknowledge; split <;> rfl
@[simp] theorem acknowledge_power (q : Byte) (s : State) :
    (acknowledge q s).power = s.power := by
  unfold acknowledge; split <;> rfl
@[simp] theorem acknowledge_track (q : Byte) (s : State) :
    (acknowledge q s).track = s.track := by
  unfold acknowledge; split <;> rfl
@[simp] theorem acknowledge_store (q : Byte) (s : State) :
    (acknowledge q s).store = s.store := by
  unfold acknowledge; split <;> rfl
@[simp] theorem acknowledge_router (q : Byte) (s : State) :
    (acknowledge q s).router = s.router := by
  unfold acknowledge; split <;> rfl
@[simp] theorem acknowledge_port (q : Byte) (s : State) :
    (acknowledge q s).port = s.port := by
  unfold acknowledge; split <;> rfl
@[simp] theorem acknowledge_bus (q : Byte) (s : State) :
    (acknowledge q s).bus = s.bus := by
  unfold acknowledge; split <;> rfl
@[simp] theorem acknowledge_log (q : Byte) (s : State) :
    (acknowledge q s).log = s.log := by
  unfold acknowledge; split <;> rfl
@[simp] theorem acknowledge_resetting (q : Byte) (s : State) :
    (acknowledge q s).resetting = s.resetting := by
  unfold acknowledge; split <;> rfl
@[simp] theorem acknowledge_pending (q : Byte) (s : State) :
    (acknowledge q s).pending = s.pending := by
  unfold acknowledge; split <;> rfl

/-! `applyRecords` writes loads, router. -/

@[simp] theorem applyRecords_run (r : PerLoad LoadRecord) (s : State) :
    (applyRecords r s).run = s.run := by
  unfold applyRecords; dsimp only; split <;> simp
@[simp] theorem applyRecords_plan (r : PerLoad LoadRecord) (s : State) :
    (applyRecords r s).plan = s.plan := by
  unfold applyRecords; dsimp only; split <;> simp
@[simp] theorem applyRecords_slots (r : PerLoad LoadRecord) (s : State) :
    (applyRecords r s).slots = s.slots := by
  unfold applyRecords; dsimp only; split <;> simp
@[simp] theorem applyRecords_power (r : PerLoad LoadRecord) (s : State) :
    (applyRecords r s).power = s.power := by
  unfold applyRecords; dsimp only; split <;> simp
@[simp] theorem applyRecords_track (r : PerLoad LoadRecord) (s : State) :
    (applyRecords r s).track = s.track := by
  unfold applyRecords; dsimp only; split <;> simp
@[simp] theorem applyRecords_store (r : PerLoad LoadRecord) (s : State) :
    (applyRecords r s).store = s.store := by
  unfold applyRecords; dsimp only; split <;> simp
@[simp] theorem applyRecords_port (r : PerLoad LoadRecord) (s : State) :
    (applyRecords r s).port = s.port := by
  unfold applyRecords; dsimp only; split <;> simp
@[simp] theorem applyRecords_bus (r : PerLoad LoadRecord) (s : State) :
    (applyRecords r s).bus = s.bus := by
  unfold applyRecords; dsimp only; split <;> simp
@[simp] theorem applyRecords_log (r : PerLoad LoadRecord) (s : State) :
    (applyRecords r s).log = s.log := by
  unfold applyRecords; dsimp only; split <;> simp
@[simp] theorem applyRecords_resetting (r : PerLoad LoadRecord) (s : State) :
    (applyRecords r s).resetting = s.resetting := by
  unfold applyRecords; dsimp only; split <;> simp
@[simp] theorem applyRecords_pending (r : PerLoad LoadRecord) (s : State) :
    (applyRecords r s).pending = s.pending := by
  unfold applyRecords; dsimp only; split <;> simp

/-! `overdrawRemoval` writes power, loads, router. -/

@[simp] theorem overdrawRemoval_run (r : LoadRecord) (s : State) :
    (overdrawRemoval r s).run = s.run := by
  unfold overdrawRemoval; dsimp only; split <;> simp
@[simp] theorem overdrawRemoval_plan (r : LoadRecord) (s : State) :
    (overdrawRemoval r s).plan = s.plan := by
  unfold overdrawRemoval; dsimp only; split <;> simp
@[simp] theorem overdrawRemoval_slots (r : LoadRecord) (s : State) :
    (overdrawRemoval r s).slots = s.slots := by
  unfold overdrawRemoval; dsimp only; split <;> simp
@[simp] theorem overdrawRemoval_track (r : LoadRecord) (s : State) :
    (overdrawRemoval r s).track = s.track := by
  unfold overdrawRemoval; dsimp only; split <;> simp
@[simp] theorem overdrawRemoval_store (r : LoadRecord) (s : State) :
    (overdrawRemoval r s).store = s.store := by
  unfold overdrawRemoval; dsimp only; split <;> simp
@[simp] theorem overdrawRemoval_port (r : LoadRecord) (s : State) :
    (overdrawRemoval r s).port = s.port := by
  unfold overdrawRemoval; dsimp only; split <;> simp
@[simp] theorem overdrawRemoval_bus (r : LoadRecord) (s : State) :
    (overdrawRemoval r s).bus = s.bus := by
  unfold overdrawRemoval; dsimp only; split <;> simp
@[simp] theorem overdrawRemoval_log (r : LoadRecord) (s : State) :
    (overdrawRemoval r s).log = s.log := by
  unfold overdrawRemoval; dsimp only; split <;> simp
@[simp] theorem overdrawRemoval_resetting (r : LoadRecord) (s : State) :
    (overdrawRemoval r s).resetting = s.resetting := by
  unfold overdrawRemoval; dsimp only; split <;> simp
@[simp] theorem overdrawRemoval_pending (r : LoadRecord) (s : State) :
    (overdrawRemoval r s).pending = s.pending := by
  unfold overdrawRemoval; dsimp only; split <;> simp

/-! `takeMeasured` writes power, loads, router. -/

@[simp] theorem takeMeasured_run (r : LoadRecord) (n : Nat) (m : Bool) (s : State) :
    (takeMeasured r n m s).run = s.run := by
  unfold takeMeasured; dsimp only; repeat' split
  all_goals simp
@[simp] theorem takeMeasured_plan (r : LoadRecord) (n : Nat) (m : Bool) (s : State) :
    (takeMeasured r n m s).plan = s.plan := by
  unfold takeMeasured; dsimp only; repeat' split
  all_goals simp
@[simp] theorem takeMeasured_slots (r : LoadRecord) (n : Nat) (m : Bool) (s : State) :
    (takeMeasured r n m s).slots = s.slots := by
  unfold takeMeasured; dsimp only; repeat' split
  all_goals simp
@[simp] theorem takeMeasured_track (r : LoadRecord) (n : Nat) (m : Bool) (s : State) :
    (takeMeasured r n m s).track = s.track := by
  unfold takeMeasured; dsimp only; repeat' split
  all_goals simp
@[simp] theorem takeMeasured_store (r : LoadRecord) (n : Nat) (m : Bool) (s : State) :
    (takeMeasured r n m s).store = s.store := by
  unfold takeMeasured; dsimp only; repeat' split
  all_goals simp
@[simp] theorem takeMeasured_port (r : LoadRecord) (n : Nat) (m : Bool) (s : State) :
    (takeMeasured r n m s).port = s.port := by
  unfold takeMeasured; dsimp only; repeat' split
  all_goals simp
@[simp] theorem takeMeasured_bus (r : LoadRecord) (n : Nat) (m : Bool) (s : State) :
    (takeMeasured r n m s).bus = s.bus := by
  unfold takeMeasured; dsimp only; repeat' split
  all_goals simp
@[simp] theorem takeMeasured_log (r : LoadRecord) (n : Nat) (m : Bool) (s : State) :
    (takeMeasured r n m s).log = s.log := by
  unfold takeMeasured; dsimp only; repeat' split
  all_goals simp
@[simp] theorem takeMeasured_resetting (r : LoadRecord) (n : Nat) (m : Bool) (s : State) :
    (takeMeasured r n m s).resetting = s.resetting := by
  unfold takeMeasured; dsimp only; repeat' split
  all_goals simp
@[simp] theorem takeMeasured_pending (r : LoadRecord) (n : Nat) (m : Bool) (s : State) :
    (takeMeasured r n m s).pending = s.pending := by
  unfold takeMeasured; dsimp only; repeat' split
  all_goals simp

/-! `actuatorArrival` writes power, loads, router. -/

@[simp] theorem actuatorArrival_run (q : Byte) (x : PerLoad Byte) (d : PerLoad U16) (s : State) :
    (actuatorArrival q x d s).run = s.run := by
  simp [actuatorArrival]
@[simp] theorem actuatorArrival_plan (q : Byte) (x : PerLoad Byte) (d : PerLoad U16) (s : State) :
    (actuatorArrival q x d s).plan = s.plan := by
  simp [actuatorArrival]
@[simp] theorem actuatorArrival_slots (q : Byte) (x : PerLoad Byte) (d : PerLoad U16) (s : State) :
    (actuatorArrival q x d s).slots = s.slots := by
  simp [actuatorArrival]
@[simp] theorem actuatorArrival_track (q : Byte) (x : PerLoad Byte) (d : PerLoad U16) (s : State) :
    (actuatorArrival q x d s).track = s.track := by
  simp [actuatorArrival]
@[simp] theorem actuatorArrival_store (q : Byte) (x : PerLoad Byte) (d : PerLoad U16) (s : State) :
    (actuatorArrival q x d s).store = s.store := by
  simp [actuatorArrival]
@[simp] theorem actuatorArrival_port (q : Byte) (x : PerLoad Byte) (d : PerLoad U16) (s : State) :
    (actuatorArrival q x d s).port = s.port := by
  simp [actuatorArrival]
@[simp] theorem actuatorArrival_bus (q : Byte) (x : PerLoad Byte) (d : PerLoad U16) (s : State) :
    (actuatorArrival q x d s).bus = s.bus := by
  simp [actuatorArrival]
@[simp] theorem actuatorArrival_log (q : Byte) (x : PerLoad Byte) (d : PerLoad U16) (s : State) :
    (actuatorArrival q x d s).log = s.log := by
  simp [actuatorArrival]
@[simp] theorem actuatorArrival_resetting (q : Byte) (x : PerLoad Byte) (d : PerLoad U16) (s : State) :
    (actuatorArrival q x d s).resetting = s.resetting := by
  simp [actuatorArrival]
@[simp] theorem actuatorArrival_pending (q : Byte) (x : PerLoad Byte) (d : PerLoad U16) (s : State) :
    (actuatorArrival q x d s).pending = s.pending := by
  simp [actuatorArrival]

/-! `serveStatusQuery` writes port. -/

@[simp] theorem serveStatusQuery_run (p : Port) (s : State) : (serveStatusQuery p s).1.run = s.run := rfl
@[simp] theorem serveStatusQuery_plan (p : Port) (s : State) : (serveStatusQuery p s).1.plan = s.plan := rfl
@[simp] theorem serveStatusQuery_slots (p : Port) (s : State) : (serveStatusQuery p s).1.slots = s.slots := rfl
@[simp] theorem serveStatusQuery_loads (p : Port) (s : State) : (serveStatusQuery p s).1.loads = s.loads := rfl
@[simp] theorem serveStatusQuery_power (p : Port) (s : State) : (serveStatusQuery p s).1.power = s.power := rfl
@[simp] theorem serveStatusQuery_track (p : Port) (s : State) : (serveStatusQuery p s).1.track = s.track := rfl
@[simp] theorem serveStatusQuery_store (p : Port) (s : State) : (serveStatusQuery p s).1.store = s.store := rfl
@[simp] theorem serveStatusQuery_router (p : Port) (s : State) : (serveStatusQuery p s).1.router = s.router := rfl
@[simp] theorem serveStatusQuery_bus (p : Port) (s : State) : (serveStatusQuery p s).1.bus = s.bus := rfl
@[simp] theorem serveStatusQuery_log (p : Port) (s : State) : (serveStatusQuery p s).1.log = s.log := rfl
@[simp] theorem serveStatusQuery_resetting (p : Port) (s : State) : (serveStatusQuery p s).1.resetting = s.resetting := rfl
@[simp] theorem serveStatusQuery_pending (p : Port) (s : State) : (serveStatusQuery p s).1.pending = s.pending := rfl

/-! `serveEventQuery` writes router. -/

@[simp] theorem serveEventQuery_run (p : Port) (s : State) : (serveEventQuery p s).1.run = s.run := rfl
@[simp] theorem serveEventQuery_plan (p : Port) (s : State) : (serveEventQuery p s).1.plan = s.plan := rfl
@[simp] theorem serveEventQuery_slots (p : Port) (s : State) : (serveEventQuery p s).1.slots = s.slots := rfl
@[simp] theorem serveEventQuery_loads (p : Port) (s : State) : (serveEventQuery p s).1.loads = s.loads := rfl
@[simp] theorem serveEventQuery_power (p : Port) (s : State) : (serveEventQuery p s).1.power = s.power := rfl
@[simp] theorem serveEventQuery_track (p : Port) (s : State) : (serveEventQuery p s).1.track = s.track := rfl
@[simp] theorem serveEventQuery_store (p : Port) (s : State) : (serveEventQuery p s).1.store = s.store := rfl
@[simp] theorem serveEventQuery_port (p : Port) (s : State) : (serveEventQuery p s).1.port = s.port := rfl
@[simp] theorem serveEventQuery_bus (p : Port) (s : State) : (serveEventQuery p s).1.bus = s.bus := rfl
@[simp] theorem serveEventQuery_log (p : Port) (s : State) : (serveEventQuery p s).1.log = s.log := rfl
@[simp] theorem serveEventQuery_resetting (p : Port) (s : State) : (serveEventQuery p s).1.resetting = s.resetting := rfl
@[simp] theorem serveEventQuery_pending (p : Port) (s : State) : (serveEventQuery p s).1.pending = s.pending := rfl

/-! `serveEventMaskSet` writes router. -/

@[simp] theorem serveEventMaskSet_run (p : Port) (m : U16) (s : State) :
    (serveEventMaskSet p m s).1.run = s.run := by
  unfold serveEventMaskSet; split <;> rfl
@[simp] theorem serveEventMaskSet_plan (p : Port) (m : U16) (s : State) :
    (serveEventMaskSet p m s).1.plan = s.plan := by
  unfold serveEventMaskSet; split <;> rfl
@[simp] theorem serveEventMaskSet_slots (p : Port) (m : U16) (s : State) :
    (serveEventMaskSet p m s).1.slots = s.slots := by
  unfold serveEventMaskSet; split <;> rfl
@[simp] theorem serveEventMaskSet_loads (p : Port) (m : U16) (s : State) :
    (serveEventMaskSet p m s).1.loads = s.loads := by
  unfold serveEventMaskSet; split <;> rfl
@[simp] theorem serveEventMaskSet_power (p : Port) (m : U16) (s : State) :
    (serveEventMaskSet p m s).1.power = s.power := by
  unfold serveEventMaskSet; split <;> rfl
@[simp] theorem serveEventMaskSet_track (p : Port) (m : U16) (s : State) :
    (serveEventMaskSet p m s).1.track = s.track := by
  unfold serveEventMaskSet; split <;> rfl
@[simp] theorem serveEventMaskSet_store (p : Port) (m : U16) (s : State) :
    (serveEventMaskSet p m s).1.store = s.store := by
  unfold serveEventMaskSet; split <;> rfl
@[simp] theorem serveEventMaskSet_port (p : Port) (m : U16) (s : State) :
    (serveEventMaskSet p m s).1.port = s.port := by
  unfold serveEventMaskSet; split <;> rfl
@[simp] theorem serveEventMaskSet_bus (p : Port) (m : U16) (s : State) :
    (serveEventMaskSet p m s).1.bus = s.bus := by
  unfold serveEventMaskSet; split <;> rfl
@[simp] theorem serveEventMaskSet_log (p : Port) (m : U16) (s : State) :
    (serveEventMaskSet p m s).1.log = s.log := by
  unfold serveEventMaskSet; split <;> rfl
@[simp] theorem serveEventMaskSet_resetting (p : Port) (m : U16) (s : State) :
    (serveEventMaskSet p m s).1.resetting = s.resetting := by
  unfold serveEventMaskSet; split <;> rfl
@[simp] theorem serveEventMaskSet_pending (p : Port) (m : U16) (s : State) :
    (serveEventMaskSet p m s).1.pending = s.pending := by
  unfold serveEventMaskSet; split <;> rfl

/-! `servePortModeSet` writes port. -/

@[simp] theorem servePortModeSet_run (p : Port) (m : Byte) (s : State) :
    (servePortModeSet p m s).1.run = s.run := by
  unfold servePortModeSet; split <;> rfl
@[simp] theorem servePortModeSet_plan (p : Port) (m : Byte) (s : State) :
    (servePortModeSet p m s).1.plan = s.plan := by
  unfold servePortModeSet; split <;> rfl
@[simp] theorem servePortModeSet_slots (p : Port) (m : Byte) (s : State) :
    (servePortModeSet p m s).1.slots = s.slots := by
  unfold servePortModeSet; split <;> rfl
@[simp] theorem servePortModeSet_loads (p : Port) (m : Byte) (s : State) :
    (servePortModeSet p m s).1.loads = s.loads := by
  unfold servePortModeSet; split <;> rfl
@[simp] theorem servePortModeSet_power (p : Port) (m : Byte) (s : State) :
    (servePortModeSet p m s).1.power = s.power := by
  unfold servePortModeSet; split <;> rfl
@[simp] theorem servePortModeSet_track (p : Port) (m : Byte) (s : State) :
    (servePortModeSet p m s).1.track = s.track := by
  unfold servePortModeSet; split <;> rfl
@[simp] theorem servePortModeSet_store (p : Port) (m : Byte) (s : State) :
    (servePortModeSet p m s).1.store = s.store := by
  unfold servePortModeSet; split <;> rfl
@[simp] theorem servePortModeSet_router (p : Port) (m : Byte) (s : State) :
    (servePortModeSet p m s).1.router = s.router := by
  unfold servePortModeSet; split <;> rfl
@[simp] theorem servePortModeSet_bus (p : Port) (m : Byte) (s : State) :
    (servePortModeSet p m s).1.bus = s.bus := by
  unfold servePortModeSet; split <;> rfl
@[simp] theorem servePortModeSet_log (p : Port) (m : Byte) (s : State) :
    (servePortModeSet p m s).1.log = s.log := by
  unfold servePortModeSet; split <;> rfl
@[simp] theorem servePortModeSet_resetting (p : Port) (m : Byte) (s : State) :
    (servePortModeSet p m s).1.resetting = s.resetting := by
  unfold servePortModeSet; split <;> rfl
@[simp] theorem servePortModeSet_pending (p : Port) (m : Byte) (s : State) :
    (servePortModeSet p m s).1.pending = s.pending := by
  unfold servePortModeSet; split <;> rfl

/-! `serveInhibitClaim` writes loads, router. -/

@[simp] theorem serveInhibitClaim_run (p : Port) (l a : Byte) (s : State) :
    (serveInhibitClaim p l a s).1.run = s.run := by
  unfold serveInhibitClaim claimSet claimClear setClaims; split
  · rfl
  · dsimp only; repeat' split
    all_goals simp
@[simp] theorem serveInhibitClaim_plan (p : Port) (l a : Byte) (s : State) :
    (serveInhibitClaim p l a s).1.plan = s.plan := by
  unfold serveInhibitClaim claimSet claimClear setClaims; split
  · rfl
  · dsimp only; repeat' split
    all_goals simp
@[simp] theorem serveInhibitClaim_slots (p : Port) (l a : Byte) (s : State) :
    (serveInhibitClaim p l a s).1.slots = s.slots := by
  unfold serveInhibitClaim claimSet claimClear setClaims; split
  · rfl
  · dsimp only; repeat' split
    all_goals simp
@[simp] theorem serveInhibitClaim_power (p : Port) (l a : Byte) (s : State) :
    (serveInhibitClaim p l a s).1.power = s.power := by
  unfold serveInhibitClaim claimSet claimClear setClaims; split
  · rfl
  · dsimp only; repeat' split
    all_goals simp
@[simp] theorem serveInhibitClaim_track (p : Port) (l a : Byte) (s : State) :
    (serveInhibitClaim p l a s).1.track = s.track := by
  unfold serveInhibitClaim claimSet claimClear setClaims; split
  · rfl
  · dsimp only; repeat' split
    all_goals simp
@[simp] theorem serveInhibitClaim_store (p : Port) (l a : Byte) (s : State) :
    (serveInhibitClaim p l a s).1.store = s.store := by
  unfold serveInhibitClaim claimSet claimClear setClaims; split
  · rfl
  · dsimp only; repeat' split
    all_goals simp
@[simp] theorem serveInhibitClaim_port (p : Port) (l a : Byte) (s : State) :
    (serveInhibitClaim p l a s).1.port = s.port := by
  unfold serveInhibitClaim claimSet claimClear setClaims; split
  · rfl
  · dsimp only; repeat' split
    all_goals simp
@[simp] theorem serveInhibitClaim_bus (p : Port) (l a : Byte) (s : State) :
    (serveInhibitClaim p l a s).1.bus = s.bus := by
  unfold serveInhibitClaim claimSet claimClear setClaims; split
  · rfl
  · dsimp only; repeat' split
    all_goals simp
@[simp] theorem serveInhibitClaim_log (p : Port) (l a : Byte) (s : State) :
    (serveInhibitClaim p l a s).1.log = s.log := by
  unfold serveInhibitClaim claimSet claimClear setClaims; split
  · rfl
  · dsimp only; repeat' split
    all_goals simp
@[simp] theorem serveInhibitClaim_resetting (p : Port) (l a : Byte) (s : State) :
    (serveInhibitClaim p l a s).1.resetting = s.resetting := by
  unfold serveInhibitClaim claimSet claimClear setClaims; split
  · rfl
  · dsimp only; repeat' split
    all_goals simp
@[simp] theorem serveInhibitClaim_pending (p : Port) (l a : Byte) (s : State) :
    (serveInhibitClaim p l a s).1.pending = s.pending := by
  unfold serveInhibitClaim claimSet claimClear setClaims; split
  · rfl
  · dsimp only; repeat' split
    all_goals simp

/-! `serveReplan` writes power, loads, router, plan, log, track, run, slots. -/

@[simp] theorem serveReplan_store (s : State) :
    (serveReplan s).1.store = s.store := by
  unfold serveReplan; split <;> simp
@[simp] theorem serveReplan_port (s : State) :
    (serveReplan s).1.port = s.port := by
  unfold serveReplan; split <;> simp
@[simp] theorem serveReplan_bus (s : State) :
    (serveReplan s).1.bus = s.bus := by
  unfold serveReplan; split <;> simp
@[simp] theorem serveReplan_resetting (s : State) :
    (serveReplan s).1.resetting = s.resetting := by
  unfold serveReplan; split <;> simp
@[simp] theorem serveReplan_pending (s : State) :
    (serveReplan s).1.pending = s.pending := by
  unfold serveReplan; split <;> simp

/-! `serveSlotQuery` writes nothing. -/

@[simp] theorem serveSlotQuery_run (i : Byte) (s : State) :
    (serveSlotQuery i s).1.run = s.run := by
  unfold serveSlotQuery; split
  · rfl
  · split <;> rfl
@[simp] theorem serveSlotQuery_plan (i : Byte) (s : State) :
    (serveSlotQuery i s).1.plan = s.plan := by
  unfold serveSlotQuery; split
  · rfl
  · split <;> rfl
@[simp] theorem serveSlotQuery_slots (i : Byte) (s : State) :
    (serveSlotQuery i s).1.slots = s.slots := by
  unfold serveSlotQuery; split
  · rfl
  · split <;> rfl
@[simp] theorem serveSlotQuery_loads (i : Byte) (s : State) :
    (serveSlotQuery i s).1.loads = s.loads := by
  unfold serveSlotQuery; split
  · rfl
  · split <;> rfl
@[simp] theorem serveSlotQuery_power (i : Byte) (s : State) :
    (serveSlotQuery i s).1.power = s.power := by
  unfold serveSlotQuery; split
  · rfl
  · split <;> rfl
@[simp] theorem serveSlotQuery_track (i : Byte) (s : State) :
    (serveSlotQuery i s).1.track = s.track := by
  unfold serveSlotQuery; split
  · rfl
  · split <;> rfl
@[simp] theorem serveSlotQuery_store (i : Byte) (s : State) :
    (serveSlotQuery i s).1.store = s.store := by
  unfold serveSlotQuery; split
  · rfl
  · split <;> rfl
@[simp] theorem serveSlotQuery_router (i : Byte) (s : State) :
    (serveSlotQuery i s).1.router = s.router := by
  unfold serveSlotQuery; split
  · rfl
  · split <;> rfl
@[simp] theorem serveSlotQuery_port (i : Byte) (s : State) :
    (serveSlotQuery i s).1.port = s.port := by
  unfold serveSlotQuery; split
  · rfl
  · split <;> rfl
@[simp] theorem serveSlotQuery_bus (i : Byte) (s : State) :
    (serveSlotQuery i s).1.bus = s.bus := by
  unfold serveSlotQuery; split
  · rfl
  · split <;> rfl
@[simp] theorem serveSlotQuery_log (i : Byte) (s : State) :
    (serveSlotQuery i s).1.log = s.log := by
  unfold serveSlotQuery; split
  · rfl
  · split <;> rfl
@[simp] theorem serveSlotQuery_resetting (i : Byte) (s : State) :
    (serveSlotQuery i s).1.resetting = s.resetting := by
  unfold serveSlotQuery; split
  · rfl
  · split <;> rfl
@[simp] theorem serveSlotQuery_pending (i : Byte) (s : State) :
    (serveSlotQuery i s).1.pending = s.pending := by
  unfold serveSlotQuery; split
  · rfl
  · split <;> rfl

/-! `serveOutcomeQuery` writes nothing. -/

@[simp] theorem serveOutcomeQuery_run (i : Byte) (s : State) :
    (serveOutcomeQuery i s).1.run = s.run := by
  unfold serveOutcomeQuery; split <;> rfl
@[simp] theorem serveOutcomeQuery_plan (i : Byte) (s : State) :
    (serveOutcomeQuery i s).1.plan = s.plan := by
  unfold serveOutcomeQuery; split <;> rfl
@[simp] theorem serveOutcomeQuery_slots (i : Byte) (s : State) :
    (serveOutcomeQuery i s).1.slots = s.slots := by
  unfold serveOutcomeQuery; split <;> rfl
@[simp] theorem serveOutcomeQuery_loads (i : Byte) (s : State) :
    (serveOutcomeQuery i s).1.loads = s.loads := by
  unfold serveOutcomeQuery; split <;> rfl
@[simp] theorem serveOutcomeQuery_power (i : Byte) (s : State) :
    (serveOutcomeQuery i s).1.power = s.power := by
  unfold serveOutcomeQuery; split <;> rfl
@[simp] theorem serveOutcomeQuery_track (i : Byte) (s : State) :
    (serveOutcomeQuery i s).1.track = s.track := by
  unfold serveOutcomeQuery; split <;> rfl
@[simp] theorem serveOutcomeQuery_store (i : Byte) (s : State) :
    (serveOutcomeQuery i s).1.store = s.store := by
  unfold serveOutcomeQuery; split <;> rfl
@[simp] theorem serveOutcomeQuery_router (i : Byte) (s : State) :
    (serveOutcomeQuery i s).1.router = s.router := by
  unfold serveOutcomeQuery; split <;> rfl
@[simp] theorem serveOutcomeQuery_port (i : Byte) (s : State) :
    (serveOutcomeQuery i s).1.port = s.port := by
  unfold serveOutcomeQuery; split <;> rfl
@[simp] theorem serveOutcomeQuery_bus (i : Byte) (s : State) :
    (serveOutcomeQuery i s).1.bus = s.bus := by
  unfold serveOutcomeQuery; split <;> rfl
@[simp] theorem serveOutcomeQuery_log (i : Byte) (s : State) :
    (serveOutcomeQuery i s).1.log = s.log := by
  unfold serveOutcomeQuery; split <;> rfl
@[simp] theorem serveOutcomeQuery_resetting (i : Byte) (s : State) :
    (serveOutcomeQuery i s).1.resetting = s.resetting := by
  unfold serveOutcomeQuery; split <;> rfl
@[simp] theorem serveOutcomeQuery_pending (i : Byte) (s : State) :
    (serveOutcomeQuery i s).1.pending = s.pending := by
  unfold serveOutcomeQuery; split <;> rfl

/-! `serveProfileFieldRead` writes nothing. -/

@[simp] theorem serveProfileFieldRead_run (b f : Byte) (s : State) :
    (serveProfileFieldRead b f s).1.run = s.run := by
  unfold serveProfileFieldRead; split
  · rfl
  · split <;> rfl
@[simp] theorem serveProfileFieldRead_plan (b f : Byte) (s : State) :
    (serveProfileFieldRead b f s).1.plan = s.plan := by
  unfold serveProfileFieldRead; split
  · rfl
  · split <;> rfl
@[simp] theorem serveProfileFieldRead_slots (b f : Byte) (s : State) :
    (serveProfileFieldRead b f s).1.slots = s.slots := by
  unfold serveProfileFieldRead; split
  · rfl
  · split <;> rfl
@[simp] theorem serveProfileFieldRead_loads (b f : Byte) (s : State) :
    (serveProfileFieldRead b f s).1.loads = s.loads := by
  unfold serveProfileFieldRead; split
  · rfl
  · split <;> rfl
@[simp] theorem serveProfileFieldRead_power (b f : Byte) (s : State) :
    (serveProfileFieldRead b f s).1.power = s.power := by
  unfold serveProfileFieldRead; split
  · rfl
  · split <;> rfl
@[simp] theorem serveProfileFieldRead_track (b f : Byte) (s : State) :
    (serveProfileFieldRead b f s).1.track = s.track := by
  unfold serveProfileFieldRead; split
  · rfl
  · split <;> rfl
@[simp] theorem serveProfileFieldRead_store (b f : Byte) (s : State) :
    (serveProfileFieldRead b f s).1.store = s.store := by
  unfold serveProfileFieldRead; split
  · rfl
  · split <;> rfl
@[simp] theorem serveProfileFieldRead_router (b f : Byte) (s : State) :
    (serveProfileFieldRead b f s).1.router = s.router := by
  unfold serveProfileFieldRead; split
  · rfl
  · split <;> rfl
@[simp] theorem serveProfileFieldRead_port (b f : Byte) (s : State) :
    (serveProfileFieldRead b f s).1.port = s.port := by
  unfold serveProfileFieldRead; split
  · rfl
  · split <;> rfl
@[simp] theorem serveProfileFieldRead_bus (b f : Byte) (s : State) :
    (serveProfileFieldRead b f s).1.bus = s.bus := by
  unfold serveProfileFieldRead; split
  · rfl
  · split <;> rfl
@[simp] theorem serveProfileFieldRead_log (b f : Byte) (s : State) :
    (serveProfileFieldRead b f s).1.log = s.log := by
  unfold serveProfileFieldRead; split
  · rfl
  · split <;> rfl
@[simp] theorem serveProfileFieldRead_resetting (b f : Byte) (s : State) :
    (serveProfileFieldRead b f s).1.resetting = s.resetting := by
  unfold serveProfileFieldRead; split
  · rfl
  · split <;> rfl
@[simp] theorem serveProfileFieldRead_pending (b f : Byte) (s : State) :
    (serveProfileFieldRead b f s).1.pending = s.pending := by
  unfold serveProfileFieldRead; split
  · rfl
  · split <;> rfl

/-! `serveResetCauseQuery` writes nothing. -/

@[simp] theorem serveResetCauseQuery_run (s : State) : (serveResetCauseQuery s).1.run = s.run := rfl
@[simp] theorem serveResetCauseQuery_plan (s : State) : (serveResetCauseQuery s).1.plan = s.plan := rfl
@[simp] theorem serveResetCauseQuery_slots (s : State) : (serveResetCauseQuery s).1.slots = s.slots := rfl
@[simp] theorem serveResetCauseQuery_loads (s : State) : (serveResetCauseQuery s).1.loads = s.loads := rfl
@[simp] theorem serveResetCauseQuery_power (s : State) : (serveResetCauseQuery s).1.power = s.power := rfl
@[simp] theorem serveResetCauseQuery_track (s : State) : (serveResetCauseQuery s).1.track = s.track := rfl
@[simp] theorem serveResetCauseQuery_store (s : State) : (serveResetCauseQuery s).1.store = s.store := rfl
@[simp] theorem serveResetCauseQuery_router (s : State) : (serveResetCauseQuery s).1.router = s.router := rfl
@[simp] theorem serveResetCauseQuery_port (s : State) : (serveResetCauseQuery s).1.port = s.port := rfl
@[simp] theorem serveResetCauseQuery_bus (s : State) : (serveResetCauseQuery s).1.bus = s.bus := rfl
@[simp] theorem serveResetCauseQuery_log (s : State) : (serveResetCauseQuery s).1.log = s.log := rfl
@[simp] theorem serveResetCauseQuery_resetting (s : State) : (serveResetCauseQuery s).1.resetting = s.resetting := rfl
@[simp] theorem serveResetCauseQuery_pending (s : State) : (serveResetCauseQuery s).1.pending = s.pending := rfl

/-! `serveResetCauseClear` writes log. -/

@[simp] theorem serveResetCauseClear_run (s : State) : (serveResetCauseClear s).1.run = s.run := rfl
@[simp] theorem serveResetCauseClear_plan (s : State) : (serveResetCauseClear s).1.plan = s.plan := rfl
@[simp] theorem serveResetCauseClear_slots (s : State) : (serveResetCauseClear s).1.slots = s.slots := rfl
@[simp] theorem serveResetCauseClear_loads (s : State) : (serveResetCauseClear s).1.loads = s.loads := rfl
@[simp] theorem serveResetCauseClear_power (s : State) : (serveResetCauseClear s).1.power = s.power := rfl
@[simp] theorem serveResetCauseClear_track (s : State) : (serveResetCauseClear s).1.track = s.track := rfl
@[simp] theorem serveResetCauseClear_store (s : State) : (serveResetCauseClear s).1.store = s.store := rfl
@[simp] theorem serveResetCauseClear_router (s : State) : (serveResetCauseClear s).1.router = s.router := rfl
@[simp] theorem serveResetCauseClear_port (s : State) : (serveResetCauseClear s).1.port = s.port := rfl
@[simp] theorem serveResetCauseClear_bus (s : State) : (serveResetCauseClear s).1.bus = s.bus := rfl
@[simp] theorem serveResetCauseClear_resetting (s : State) : (serveResetCauseClear s).1.resetting = s.resetting := rfl
@[simp] theorem serveResetCauseClear_pending (s : State) : (serveResetCauseClear s).1.pending = s.pending := rfl

/-! `serveSettingRead` writes nothing. -/

@[simp] theorem serveSettingRead_run (i : Byte) (s : State) :
    (serveSettingRead i s).1.run = s.run := by
  unfold serveSettingRead; split <;> rfl
@[simp] theorem serveSettingRead_plan (i : Byte) (s : State) :
    (serveSettingRead i s).1.plan = s.plan := by
  unfold serveSettingRead; split <;> rfl
@[simp] theorem serveSettingRead_slots (i : Byte) (s : State) :
    (serveSettingRead i s).1.slots = s.slots := by
  unfold serveSettingRead; split <;> rfl
@[simp] theorem serveSettingRead_loads (i : Byte) (s : State) :
    (serveSettingRead i s).1.loads = s.loads := by
  unfold serveSettingRead; split <;> rfl
@[simp] theorem serveSettingRead_power (i : Byte) (s : State) :
    (serveSettingRead i s).1.power = s.power := by
  unfold serveSettingRead; split <;> rfl
@[simp] theorem serveSettingRead_track (i : Byte) (s : State) :
    (serveSettingRead i s).1.track = s.track := by
  unfold serveSettingRead; split <;> rfl
@[simp] theorem serveSettingRead_store (i : Byte) (s : State) :
    (serveSettingRead i s).1.store = s.store := by
  unfold serveSettingRead; split <;> rfl
@[simp] theorem serveSettingRead_router (i : Byte) (s : State) :
    (serveSettingRead i s).1.router = s.router := by
  unfold serveSettingRead; split <;> rfl
@[simp] theorem serveSettingRead_port (i : Byte) (s : State) :
    (serveSettingRead i s).1.port = s.port := by
  unfold serveSettingRead; split <;> rfl
@[simp] theorem serveSettingRead_bus (i : Byte) (s : State) :
    (serveSettingRead i s).1.bus = s.bus := by
  unfold serveSettingRead; split <;> rfl
@[simp] theorem serveSettingRead_log (i : Byte) (s : State) :
    (serveSettingRead i s).1.log = s.log := by
  unfold serveSettingRead; split <;> rfl
@[simp] theorem serveSettingRead_resetting (i : Byte) (s : State) :
    (serveSettingRead i s).1.resetting = s.resetting := by
  unfold serveSettingRead; split <;> rfl
@[simp] theorem serveSettingRead_pending (i : Byte) (s : State) :
    (serveSettingRead i s).1.pending = s.pending := by
  unfold serveSettingRead; split <;> rfl

/-! `serveEnvelope` writes power, loads, router, plan, log. -/

@[simp] theorem serveEnvelope_run (l : Byte) (g k h : U16) (s : State) :
    (serveEnvelope l g k h s).1.run = s.run := by
  unfold serveEnvelope envelopeArrival; split
  · rfl
  · dsimp only; split <;> simp
@[simp] theorem serveEnvelope_slots (l : Byte) (g k h : U16) (s : State) :
    (serveEnvelope l g k h s).1.slots = s.slots := by
  unfold serveEnvelope envelopeArrival; split
  · rfl
  · dsimp only; split <;> simp
@[simp] theorem serveEnvelope_track (l : Byte) (g k h : U16) (s : State) :
    (serveEnvelope l g k h s).1.track = s.track := by
  unfold serveEnvelope envelopeArrival; split
  · rfl
  · dsimp only; split <;> simp
@[simp] theorem serveEnvelope_store (l : Byte) (g k h : U16) (s : State) :
    (serveEnvelope l g k h s).1.store = s.store := by
  unfold serveEnvelope envelopeArrival; split
  · rfl
  · dsimp only; split <;> simp
@[simp] theorem serveEnvelope_port (l : Byte) (g k h : U16) (s : State) :
    (serveEnvelope l g k h s).1.port = s.port := by
  unfold serveEnvelope envelopeArrival; split
  · rfl
  · dsimp only; split <;> simp
@[simp] theorem serveEnvelope_bus (l : Byte) (g k h : U16) (s : State) :
    (serveEnvelope l g k h s).1.bus = s.bus := by
  unfold serveEnvelope envelopeArrival; split
  · rfl
  · dsimp only; split <;> simp
@[simp] theorem serveEnvelope_resetting (l : Byte) (g k h : U16) (s : State) :
    (serveEnvelope l g k h s).1.resetting = s.resetting := by
  unfold serveEnvelope envelopeArrival; split
  · rfl
  · dsimp only; split <;> simp
@[simp] theorem serveEnvelope_pending (l : Byte) (g k h : U16) (s : State) :
    (serveEnvelope l g k h s).1.pending = s.pending := by
  unfold serveEnvelope envelopeArrival; split
  · rfl
  · dsimp only; split <;> simp

/-! `serveFloorSet` writes power, loads, router. -/

@[simp] theorem serveFloorSet_run (f : Byte) (s : State) :
    (serveFloorSet f s).1.run = s.run := by
  unfold serveFloorSet setFloor; dsimp only; split <;> simp
@[simp] theorem serveFloorSet_plan (f : Byte) (s : State) :
    (serveFloorSet f s).1.plan = s.plan := by
  unfold serveFloorSet setFloor; dsimp only; split <;> simp
@[simp] theorem serveFloorSet_slots (f : Byte) (s : State) :
    (serveFloorSet f s).1.slots = s.slots := by
  unfold serveFloorSet setFloor; dsimp only; split <;> simp
@[simp] theorem serveFloorSet_track (f : Byte) (s : State) :
    (serveFloorSet f s).1.track = s.track := by
  unfold serveFloorSet setFloor; dsimp only; split <;> simp
@[simp] theorem serveFloorSet_store (f : Byte) (s : State) :
    (serveFloorSet f s).1.store = s.store := by
  unfold serveFloorSet setFloor; dsimp only; split <;> simp
@[simp] theorem serveFloorSet_port (f : Byte) (s : State) :
    (serveFloorSet f s).1.port = s.port := by
  unfold serveFloorSet setFloor; dsimp only; split <;> simp
@[simp] theorem serveFloorSet_bus (f : Byte) (s : State) :
    (serveFloorSet f s).1.bus = s.bus := by
  unfold serveFloorSet setFloor; dsimp only; split <;> simp
@[simp] theorem serveFloorSet_log (f : Byte) (s : State) :
    (serveFloorSet f s).1.log = s.log := by
  unfold serveFloorSet setFloor; dsimp only; split <;> simp
@[simp] theorem serveFloorSet_resetting (f : Byte) (s : State) :
    (serveFloorSet f s).1.resetting = s.resetting := by
  unfold serveFloorSet setFloor; dsimp only; split <;> simp
@[simp] theorem serveFloorSet_pending (f : Byte) (s : State) :
    (serveFloorSet f s).1.pending = s.pending := by
  unfold serveFloorSet setFloor; dsimp only; split <;> simp

/-! `serveDrawQuery` writes nothing. -/

@[simp] theorem serveDrawQuery_run (s : State) : (serveDrawQuery s).1.run = s.run := rfl
@[simp] theorem serveDrawQuery_plan (s : State) : (serveDrawQuery s).1.plan = s.plan := rfl
@[simp] theorem serveDrawQuery_slots (s : State) : (serveDrawQuery s).1.slots = s.slots := rfl
@[simp] theorem serveDrawQuery_loads (s : State) : (serveDrawQuery s).1.loads = s.loads := rfl
@[simp] theorem serveDrawQuery_power (s : State) : (serveDrawQuery s).1.power = s.power := rfl
@[simp] theorem serveDrawQuery_track (s : State) : (serveDrawQuery s).1.track = s.track := rfl
@[simp] theorem serveDrawQuery_store (s : State) : (serveDrawQuery s).1.store = s.store := rfl
@[simp] theorem serveDrawQuery_router (s : State) : (serveDrawQuery s).1.router = s.router := rfl
@[simp] theorem serveDrawQuery_port (s : State) : (serveDrawQuery s).1.port = s.port := rfl
@[simp] theorem serveDrawQuery_bus (s : State) : (serveDrawQuery s).1.bus = s.bus := rfl
@[simp] theorem serveDrawQuery_log (s : State) : (serveDrawQuery s).1.log = s.log := rfl
@[simp] theorem serveDrawQuery_resetting (s : State) : (serveDrawQuery s).1.resetting = s.resetting := rfl
@[simp] theorem serveDrawQuery_pending (s : State) : (serveDrawQuery s).1.pending = s.pending := rfl

/-! `serveSensorReport` writes power, loads, router, plan, log, track, run, slots. -/

@[simp] theorem serveSensorReport_store (a b c : U16) (d : Byte) (s : State) :
    (serveSensorReport a b c d s).1.store = s.store := by
  unfold serveSensorReport; split <;> simp
@[simp] theorem serveSensorReport_port (a b c : U16) (d : Byte) (s : State) :
    (serveSensorReport a b c d s).1.port = s.port := by
  unfold serveSensorReport; split <;> simp
@[simp] theorem serveSensorReport_bus (a b c : U16) (d : Byte) (s : State) :
    (serveSensorReport a b c d s).1.bus = s.bus := by
  unfold serveSensorReport; split <;> simp
@[simp] theorem serveSensorReport_resetting (a b c : U16) (d : Byte) (s : State) :
    (serveSensorReport a b c d s).1.resetting = s.resetting := by
  unfold serveSensorReport; split <;> simp
@[simp] theorem serveSensorReport_pending (a b c : U16) (d : Byte) (s : State) :
    (serveSensorReport a b c d s).1.pending = s.pending := by
  unfold serveSensorReport; split <;> simp

/-! `serveActuatorStatus` writes power, loads, router. -/

@[simp] theorem serveActuatorStatus_run (q : Byte) (x : PerLoad Byte) (d : PerLoad U16) (s : State) :
    (serveActuatorStatus q x d s).1.run = s.run := by
  unfold serveActuatorStatus; split <;> simp
@[simp] theorem serveActuatorStatus_plan (q : Byte) (x : PerLoad Byte) (d : PerLoad U16) (s : State) :
    (serveActuatorStatus q x d s).1.plan = s.plan := by
  unfold serveActuatorStatus; split <;> simp
@[simp] theorem serveActuatorStatus_slots (q : Byte) (x : PerLoad Byte) (d : PerLoad U16) (s : State) :
    (serveActuatorStatus q x d s).1.slots = s.slots := by
  unfold serveActuatorStatus; split <;> simp
@[simp] theorem serveActuatorStatus_track (q : Byte) (x : PerLoad Byte) (d : PerLoad U16) (s : State) :
    (serveActuatorStatus q x d s).1.track = s.track := by
  unfold serveActuatorStatus; split <;> simp
@[simp] theorem serveActuatorStatus_store (q : Byte) (x : PerLoad Byte) (d : PerLoad U16) (s : State) :
    (serveActuatorStatus q x d s).1.store = s.store := by
  unfold serveActuatorStatus; split <;> simp
@[simp] theorem serveActuatorStatus_port (q : Byte) (x : PerLoad Byte) (d : PerLoad U16) (s : State) :
    (serveActuatorStatus q x d s).1.port = s.port := by
  unfold serveActuatorStatus; split <;> simp
@[simp] theorem serveActuatorStatus_bus (q : Byte) (x : PerLoad Byte) (d : PerLoad U16) (s : State) :
    (serveActuatorStatus q x d s).1.bus = s.bus := by
  unfold serveActuatorStatus; split <;> simp
@[simp] theorem serveActuatorStatus_log (q : Byte) (x : PerLoad Byte) (d : PerLoad U16) (s : State) :
    (serveActuatorStatus q x d s).1.log = s.log := by
  unfold serveActuatorStatus; split <;> simp
@[simp] theorem serveActuatorStatus_resetting (q : Byte) (x : PerLoad Byte) (d : PerLoad U16) (s : State) :
    (serveActuatorStatus q x d s).1.resetting = s.resetting := by
  unfold serveActuatorStatus; split <;> simp
@[simp] theorem serveActuatorStatus_pending (q : Byte) (x : PerLoad Byte) (d : PerLoad U16) (s : State) :
    (serveActuatorStatus q x d s).1.pending = s.pending := by
  unfold serveActuatorStatus; split <;> simp

/-! `serveGrantQuery` writes nothing. -/

@[simp] theorem serveGrantQuery_run (s : State) : (serveGrantQuery s).1.run = s.run := rfl
@[simp] theorem serveGrantQuery_plan (s : State) : (serveGrantQuery s).1.plan = s.plan := rfl
@[simp] theorem serveGrantQuery_slots (s : State) : (serveGrantQuery s).1.slots = s.slots := rfl
@[simp] theorem serveGrantQuery_loads (s : State) : (serveGrantQuery s).1.loads = s.loads := rfl
@[simp] theorem serveGrantQuery_power (s : State) : (serveGrantQuery s).1.power = s.power := rfl
@[simp] theorem serveGrantQuery_track (s : State) : (serveGrantQuery s).1.track = s.track := rfl
@[simp] theorem serveGrantQuery_store (s : State) : (serveGrantQuery s).1.store = s.store := rfl
@[simp] theorem serveGrantQuery_router (s : State) : (serveGrantQuery s).1.router = s.router := rfl
@[simp] theorem serveGrantQuery_port (s : State) : (serveGrantQuery s).1.port = s.port := rfl
@[simp] theorem serveGrantQuery_bus (s : State) : (serveGrantQuery s).1.bus = s.bus := rfl
@[simp] theorem serveGrantQuery_log (s : State) : (serveGrantQuery s).1.log = s.log := rfl
@[simp] theorem serveGrantQuery_resetting (s : State) : (serveGrantQuery s).1.resetting = s.resetting := rfl
@[simp] theorem serveGrantQuery_pending (s : State) : (serveGrantQuery s).1.pending = s.pending := rfl

/-! `serveClearFault` writes loads. -/

@[simp] theorem serveClearFault_run (l : Byte) (s : State) :
    (serveClearFault l s).1.run = s.run := by
  unfold serveClearFault setRecord; split
  · rfl
  · dsimp only; split <;> rfl
@[simp] theorem serveClearFault_plan (l : Byte) (s : State) :
    (serveClearFault l s).1.plan = s.plan := by
  unfold serveClearFault setRecord; split
  · rfl
  · dsimp only; split <;> rfl
@[simp] theorem serveClearFault_slots (l : Byte) (s : State) :
    (serveClearFault l s).1.slots = s.slots := by
  unfold serveClearFault setRecord; split
  · rfl
  · dsimp only; split <;> rfl
@[simp] theorem serveClearFault_power (l : Byte) (s : State) :
    (serveClearFault l s).1.power = s.power := by
  unfold serveClearFault setRecord; split
  · rfl
  · dsimp only; split <;> rfl
@[simp] theorem serveClearFault_track (l : Byte) (s : State) :
    (serveClearFault l s).1.track = s.track := by
  unfold serveClearFault setRecord; split
  · rfl
  · dsimp only; split <;> rfl
@[simp] theorem serveClearFault_store (l : Byte) (s : State) :
    (serveClearFault l s).1.store = s.store := by
  unfold serveClearFault setRecord; split
  · rfl
  · dsimp only; split <;> rfl
@[simp] theorem serveClearFault_router (l : Byte) (s : State) :
    (serveClearFault l s).1.router = s.router := by
  unfold serveClearFault setRecord; split
  · rfl
  · dsimp only; split <;> rfl
@[simp] theorem serveClearFault_port (l : Byte) (s : State) :
    (serveClearFault l s).1.port = s.port := by
  unfold serveClearFault setRecord; split
  · rfl
  · dsimp only; split <;> rfl
@[simp] theorem serveClearFault_bus (l : Byte) (s : State) :
    (serveClearFault l s).1.bus = s.bus := by
  unfold serveClearFault setRecord; split
  · rfl
  · dsimp only; split <;> rfl
@[simp] theorem serveClearFault_log (l : Byte) (s : State) :
    (serveClearFault l s).1.log = s.log := by
  unfold serveClearFault setRecord; split
  · rfl
  · dsimp only; split <;> rfl
@[simp] theorem serveClearFault_resetting (l : Byte) (s : State) :
    (serveClearFault l s).1.resetting = s.resetting := by
  unfold serveClearFault setRecord; split
  · rfl
  · dsimp only; split <;> rfl
@[simp] theorem serveClearFault_pending (l : Byte) (s : State) :
    (serveClearFault l s).1.pending = s.pending := by
  unfold serveClearFault setRecord; split
  · rfl
  · dsimp only; split <;> rfl

/-! `serveCopEntryWrite` writes slots. -/

@[simp] theorem serveCopEntryWrite_run (i : Byte) (v : U16) (s : State) :
    (serveCopEntryWrite i v s).1.run = s.run := by
  unfold serveCopEntryWrite; split <;> rfl
@[simp] theorem serveCopEntryWrite_plan (i : Byte) (v : U16) (s : State) :
    (serveCopEntryWrite i v s).1.plan = s.plan := by
  unfold serveCopEntryWrite; split <;> rfl
@[simp] theorem serveCopEntryWrite_loads (i : Byte) (v : U16) (s : State) :
    (serveCopEntryWrite i v s).1.loads = s.loads := by
  unfold serveCopEntryWrite; split <;> rfl
@[simp] theorem serveCopEntryWrite_power (i : Byte) (v : U16) (s : State) :
    (serveCopEntryWrite i v s).1.power = s.power := by
  unfold serveCopEntryWrite; split <;> rfl
@[simp] theorem serveCopEntryWrite_track (i : Byte) (v : U16) (s : State) :
    (serveCopEntryWrite i v s).1.track = s.track := by
  unfold serveCopEntryWrite; split <;> rfl
@[simp] theorem serveCopEntryWrite_store (i : Byte) (v : U16) (s : State) :
    (serveCopEntryWrite i v s).1.store = s.store := by
  unfold serveCopEntryWrite; split <;> rfl
@[simp] theorem serveCopEntryWrite_router (i : Byte) (v : U16) (s : State) :
    (serveCopEntryWrite i v s).1.router = s.router := by
  unfold serveCopEntryWrite; split <;> rfl
@[simp] theorem serveCopEntryWrite_port (i : Byte) (v : U16) (s : State) :
    (serveCopEntryWrite i v s).1.port = s.port := by
  unfold serveCopEntryWrite; split <;> rfl
@[simp] theorem serveCopEntryWrite_bus (i : Byte) (v : U16) (s : State) :
    (serveCopEntryWrite i v s).1.bus = s.bus := by
  unfold serveCopEntryWrite; split <;> rfl
@[simp] theorem serveCopEntryWrite_log (i : Byte) (v : U16) (s : State) :
    (serveCopEntryWrite i v s).1.log = s.log := by
  unfold serveCopEntryWrite; split <;> rfl
@[simp] theorem serveCopEntryWrite_resetting (i : Byte) (v : U16) (s : State) :
    (serveCopEntryWrite i v s).1.resetting = s.resetting := by
  unfold serveCopEntryWrite; split <;> rfl
@[simp] theorem serveCopEntryWrite_pending (i : Byte) (v : U16) (s : State) :
    (serveCopEntryWrite i v s).1.pending = s.pending := by
  unfold serveCopEntryWrite; split <;> rfl

/-! `serveLoadLimitSet` writes loads, router. -/

@[simp] theorem serveLoadLimitSet_run (l : Byte) (v : U16) (s : State) :
    (serveLoadLimitSet l v s).1.run = s.run := by
  unfold serveLoadLimitSet setLoadLimit; split
  · rfl
  · dsimp only; repeat' split
    all_goals simp
@[simp] theorem serveLoadLimitSet_plan (l : Byte) (v : U16) (s : State) :
    (serveLoadLimitSet l v s).1.plan = s.plan := by
  unfold serveLoadLimitSet setLoadLimit; split
  · rfl
  · dsimp only; repeat' split
    all_goals simp
@[simp] theorem serveLoadLimitSet_slots (l : Byte) (v : U16) (s : State) :
    (serveLoadLimitSet l v s).1.slots = s.slots := by
  unfold serveLoadLimitSet setLoadLimit; split
  · rfl
  · dsimp only; repeat' split
    all_goals simp
@[simp] theorem serveLoadLimitSet_power (l : Byte) (v : U16) (s : State) :
    (serveLoadLimitSet l v s).1.power = s.power := by
  unfold serveLoadLimitSet setLoadLimit; split
  · rfl
  · dsimp only; repeat' split
    all_goals simp
@[simp] theorem serveLoadLimitSet_track (l : Byte) (v : U16) (s : State) :
    (serveLoadLimitSet l v s).1.track = s.track := by
  unfold serveLoadLimitSet setLoadLimit; split
  · rfl
  · dsimp only; repeat' split
    all_goals simp
@[simp] theorem serveLoadLimitSet_store (l : Byte) (v : U16) (s : State) :
    (serveLoadLimitSet l v s).1.store = s.store := by
  unfold serveLoadLimitSet setLoadLimit; split
  · rfl
  · dsimp only; repeat' split
    all_goals simp
@[simp] theorem serveLoadLimitSet_port (l : Byte) (v : U16) (s : State) :
    (serveLoadLimitSet l v s).1.port = s.port := by
  unfold serveLoadLimitSet setLoadLimit; split
  · rfl
  · dsimp only; repeat' split
    all_goals simp
@[simp] theorem serveLoadLimitSet_bus (l : Byte) (v : U16) (s : State) :
    (serveLoadLimitSet l v s).1.bus = s.bus := by
  unfold serveLoadLimitSet setLoadLimit; split
  · rfl
  · dsimp only; repeat' split
    all_goals simp
@[simp] theorem serveLoadLimitSet_log (l : Byte) (v : U16) (s : State) :
    (serveLoadLimitSet l v s).1.log = s.log := by
  unfold serveLoadLimitSet setLoadLimit; split
  · rfl
  · dsimp only; repeat' split
    all_goals simp
@[simp] theorem serveLoadLimitSet_resetting (l : Byte) (v : U16) (s : State) :
    (serveLoadLimitSet l v s).1.resetting = s.resetting := by
  unfold serveLoadLimitSet setLoadLimit; split
  · rfl
  · dsimp only; repeat' split
    all_goals simp
@[simp] theorem serveLoadLimitSet_pending (l : Byte) (v : U16) (s : State) :
    (serveLoadLimitSet l v s).1.pending = s.pending := by
  unfold serveLoadLimitSet setLoadLimit; split
  · rfl
  · dsimp only; repeat' split
    all_goals simp

/-! `serveSensorTimeoutSet` writes track. -/

@[simp] theorem serveSensorTimeoutSet_run (v : Byte) (s : State) : (serveSensorTimeoutSet v s).1.run = s.run := rfl
@[simp] theorem serveSensorTimeoutSet_plan (v : Byte) (s : State) : (serveSensorTimeoutSet v s).1.plan = s.plan := rfl
@[simp] theorem serveSensorTimeoutSet_slots (v : Byte) (s : State) : (serveSensorTimeoutSet v s).1.slots = s.slots := rfl
@[simp] theorem serveSensorTimeoutSet_loads (v : Byte) (s : State) : (serveSensorTimeoutSet v s).1.loads = s.loads := rfl
@[simp] theorem serveSensorTimeoutSet_power (v : Byte) (s : State) : (serveSensorTimeoutSet v s).1.power = s.power := rfl
@[simp] theorem serveSensorTimeoutSet_store (v : Byte) (s : State) : (serveSensorTimeoutSet v s).1.store = s.store := rfl
@[simp] theorem serveSensorTimeoutSet_router (v : Byte) (s : State) : (serveSensorTimeoutSet v s).1.router = s.router := rfl
@[simp] theorem serveSensorTimeoutSet_port (v : Byte) (s : State) : (serveSensorTimeoutSet v s).1.port = s.port := rfl
@[simp] theorem serveSensorTimeoutSet_bus (v : Byte) (s : State) : (serveSensorTimeoutSet v s).1.bus = s.bus := rfl
@[simp] theorem serveSensorTimeoutSet_log (v : Byte) (s : State) : (serveSensorTimeoutSet v s).1.log = s.log := rfl
@[simp] theorem serveSensorTimeoutSet_resetting (v : Byte) (s : State) : (serveSensorTimeoutSet v s).1.resetting = s.resetting := rfl
@[simp] theorem serveSensorTimeoutSet_pending (v : Byte) (s : State) : (serveSensorTimeoutSet v s).1.pending = s.pending := rfl

/-! `serveDepartureSet` writes power, loads, router, plan, log, track, run, slots. -/

@[simp] theorem serveDepartureSet_store (v : U16) (u m : Byte) (q : U16) (s : State) :
    (serveDepartureSet v u m q s).1.store = s.store := by
  unfold serveDepartureSet departureArrival loadDeparture; split
  · dsimp only; repeat' split
    all_goals simp
  · rfl
@[simp] theorem serveDepartureSet_port (v : U16) (u m : Byte) (q : U16) (s : State) :
    (serveDepartureSet v u m q s).1.port = s.port := by
  unfold serveDepartureSet departureArrival loadDeparture; split
  · dsimp only; repeat' split
    all_goals simp
  · rfl
@[simp] theorem serveDepartureSet_bus (v : U16) (u m : Byte) (q : U16) (s : State) :
    (serveDepartureSet v u m q s).1.bus = s.bus := by
  unfold serveDepartureSet departureArrival loadDeparture; split
  · dsimp only; repeat' split
    all_goals simp
  · rfl
@[simp] theorem serveDepartureSet_resetting (v : U16) (u m : Byte) (q : U16) (s : State) :
    (serveDepartureSet v u m q s).1.resetting = s.resetting := by
  unfold serveDepartureSet departureArrival loadDeparture; split
  · dsimp only; repeat' split
    all_goals simp
  · rfl
@[simp] theorem serveDepartureSet_pending (v : U16) (u m : Byte) (q : U16) (s : State) :
    (serveDepartureSet v u m q s).1.pending = s.pending := by
  unfold serveDepartureSet departureArrival loadDeparture; split
  · dsimp only; repeat' split
    all_goals simp
  · rfl

/-! `serveCancel` writes power, loads, router, plan, log, track, run, slots. -/

@[simp] theorem serveCancel_store (s : State) :
    (serveCancel s).1.store = s.store := by
  unfold serveCancel; split <;> simp
@[simp] theorem serveCancel_port (s : State) :
    (serveCancel s).1.port = s.port := by
  unfold serveCancel; split <;> simp
@[simp] theorem serveCancel_bus (s : State) :
    (serveCancel s).1.bus = s.bus := by
  unfold serveCancel; split <;> simp
@[simp] theorem serveCancel_resetting (s : State) :
    (serveCancel s).1.resetting = s.resetting := by
  unfold serveCancel; split <;> simp
@[simp] theorem serveCancel_pending (s : State) :
    (serveCancel s).1.pending = s.pending := by
  unfold serveCancel; split <;> simp

/-! `serveSelectBank` writes power, loads, router, plan, log, track, run, slots, store. -/

@[simp] theorem serveSelectBank_port (b : Byte) (s : State) :
    (serveSelectBank b s).1.port = s.port := by
  unfold serveSelectBank bankArrival activate; split
  · rfl
  · dsimp only; split <;> simp
@[simp] theorem serveSelectBank_bus (b : Byte) (s : State) :
    (serveSelectBank b s).1.bus = s.bus := by
  unfold serveSelectBank bankArrival activate; split
  · rfl
  · dsimp only; split <;> simp
@[simp] theorem serveSelectBank_resetting (b : Byte) (s : State) :
    (serveSelectBank b s).1.resetting = s.resetting := by
  unfold serveSelectBank bankArrival activate; split
  · rfl
  · dsimp only; split <;> simp
@[simp] theorem serveSelectBank_pending (b : Byte) (s : State) :
    (serveSelectBank b s).1.pending = s.pending := by
  unfold serveSelectBank bankArrival activate; split
  · rfl
  · dsimp only; split <;> simp

/-! `serveProfileFieldWrite` writes power, loads, router, plan, log, store. -/

@[simp] theorem serveProfileFieldWrite_run (b f : Byte) (v : U16) (s : State) :
    (serveProfileFieldWrite b f v s).1.run = s.run := by
  unfold serveProfileFieldWrite writeField; split
  · rfl
  · split
    · rfl
    · dsimp only; split <;> simp
@[simp] theorem serveProfileFieldWrite_slots (b f : Byte) (v : U16) (s : State) :
    (serveProfileFieldWrite b f v s).1.slots = s.slots := by
  unfold serveProfileFieldWrite writeField; split
  · rfl
  · split
    · rfl
    · dsimp only; split <;> simp
@[simp] theorem serveProfileFieldWrite_track (b f : Byte) (v : U16) (s : State) :
    (serveProfileFieldWrite b f v s).1.track = s.track := by
  unfold serveProfileFieldWrite writeField; split
  · rfl
  · split
    · rfl
    · dsimp only; split <;> simp
@[simp] theorem serveProfileFieldWrite_port (b f : Byte) (v : U16) (s : State) :
    (serveProfileFieldWrite b f v s).1.port = s.port := by
  unfold serveProfileFieldWrite writeField; split
  · rfl
  · split
    · rfl
    · dsimp only; split <;> simp
@[simp] theorem serveProfileFieldWrite_bus (b f : Byte) (v : U16) (s : State) :
    (serveProfileFieldWrite b f v s).1.bus = s.bus := by
  unfold serveProfileFieldWrite writeField; split
  · rfl
  · split
    · rfl
    · dsimp only; split <;> simp
@[simp] theorem serveProfileFieldWrite_resetting (b f : Byte) (v : U16) (s : State) :
    (serveProfileFieldWrite b f v s).1.resetting = s.resetting := by
  unfold serveProfileFieldWrite writeField; split
  · rfl
  · split
    · rfl
    · dsimp only; split <;> simp
@[simp] theorem serveProfileFieldWrite_pending (b f : Byte) (v : U16) (s : State) :
    (serveProfileFieldWrite b f v s).1.pending = s.pending := by
  unfold serveProfileFieldWrite writeField; split
  · rfl
  · split
    · rfl
    · dsimp only; split <;> simp

/-! `serveSlotLengthSet` writes power, loads, router, plan, log, track, run. -/

@[simp] theorem serveSlotLengthSet_slots (v : U16) (s : State) :
    (serveSlotLengthSet v s).1.slots = s.slots := by
  simp [serveSlotLengthSet]
@[simp] theorem serveSlotLengthSet_store (v : U16) (s : State) :
    (serveSlotLengthSet v s).1.store = s.store := by
  simp [serveSlotLengthSet]
@[simp] theorem serveSlotLengthSet_port (v : U16) (s : State) :
    (serveSlotLengthSet v s).1.port = s.port := by
  simp [serveSlotLengthSet]
@[simp] theorem serveSlotLengthSet_bus (v : U16) (s : State) :
    (serveSlotLengthSet v s).1.bus = s.bus := by
  simp [serveSlotLengthSet]
@[simp] theorem serveSlotLengthSet_resetting (v : U16) (s : State) :
    (serveSlotLengthSet v s).1.resetting = s.resetting := by
  simp [serveSlotLengthSet]
@[simp] theorem serveSlotLengthSet_pending (v : U16) (s : State) :
    (serveSlotLengthSet v s).1.pending = s.pending := by
  simp [serveSlotLengthSet]

/-! No service touches the buses, the reset in progress or the queue. -/

@[simp] theorem serveRequest_bus (p : Port) (r : Request) (b : List Byte) (s : State) :
    (serveRequest p r b s).1.bus = s.bus := by
  cases r <;> simp [serveRequest]

@[simp] theorem serveFrame_bus (p : Port) (f : Frame) (s : State) : (serveFrame p f s).1.bus = s.bus := by
  unfold serveFrame; split <;> simp

@[simp] theorem serveRequest_resetting (p : Port) (r : Request) (b : List Byte) (s : State) :
    (serveRequest p r b s).1.resetting = s.resetting := by
  cases r <;> simp [serveRequest]

@[simp] theorem serveFrame_resetting (p : Port) (f : Frame) (s : State) : (serveFrame p f s).1.resetting = s.resetting := by
  unfold serveFrame; split <;> simp

@[simp] theorem serveRequest_pending (p : Port) (r : Request) (b : List Byte) (s : State) :
    (serveRequest p r b s).1.pending = s.pending := by
  cases r <;> simp [serveRequest]

@[simp] theorem serveFrame_pending (p : Port) (f : Frame) (s : State) : (serveFrame p f s).1.pending = s.pending := by
  unfold serveFrame; split <;> simp

end Sys2Proof.Machine
end

