-- ==== Sys2Proof/Laws/Handler.lean ====
section
/-! SUPPORT. The Request Handler in the case that most statements speak of: a request written at a port that is ready for
it is taken, served and answered in one step. -/

namespace Sys2Proof.Machine

/-! ### What the port operations leave alone -/

@[simp] theorem setPort_bus (p : Port) (t : TargetPort) (s : State) : (setPort p t s).bus = s.bus := rfl
@[simp] theorem setPort_run (p : Port) (t : TargetPort) (s : State) : (setPort p t s).run = s.run := rfl
@[simp] theorem setPort_ports (p : Port) (t : TargetPort) (s : State) :
    (setPort p t s).port.ports = s.port.ports.set p t := rfl
@[simp] theorem setPort_rotation (p : Port) (t : TargetPort) (s : State) :
    (setPort p t s).port.rotation = s.port.rotation := rfl
@[simp] theorem setPort_resetting (p : Port) (t : TargetPort) (s : State) :
    (setPort p t s).resetting = s.resetting := rfl
@[simp] theorem setPort_pending (p : Port) (t : TargetPort) (s : State) : (setPort p t s).pending = s.pending := rfl
@[simp] theorem install_run (p : Port) (r : List Byte) (s : State) : (install p r s).run = s.run := rfl
@[simp] theorem install_bus (p : Port) (r : List Byte) (s : State) : (install p r s).bus = s.bus := rfl
@[simp] theorem install_resetting (p : Port) (r : List Byte) (s : State) :
    (install p r s).resetting = s.resetting := rfl
@[simp] theorem install_pending (p : Port) (r : List Byte) (s : State) : (install p r s).pending = s.pending := rfl

/-! ### Candidates and the release of held frames -/

theorem candidate_eq (s : State) (p : Port) :
    s.candidate p = true ↔ ∃ f, (s.port.ports.get p).rx = .pending f ∧ s.run.held.get p = false := by
  unfold State.candidate
  split <;> simp_all

theorem candidate_of_pending {s : State} {p : Port} {f : Frame} (h : (s.port.ports.get p).rx = .pending f) :
    s.candidate p = !s.run.held.get p := by
  simp [State.candidate, h]

theorem candidate_of_empty {s : State} {p : Port} (h : (s.port.ports.get p).rx = .empty) : s.candidate p = false := by
  simp [State.candidate, h]

/-- Where no frame that was held is a candidate now, nothing is served at the end of the step. -/
theorem serveReleased_none {before s : State}
    (h : ∀ p, before.run.held.get p = true → s.candidate p = false) : serveReleased before s = s := by
  have none : s.awaitsFreed before.run.held = false := by
    have h1 := h .supply
    have h2 := h .climate
    have h3 := h .dispatch
    simp only [PerPort.get] at h1 h2 h3
    simp only [State.awaitsFreed, Bool.or_eq_false_iff, Bool.and_eq_false_imp]
    exact ⟨⟨h1, h2⟩, h3⟩
  simp [serveReleased, serveWhile, none]

/-! ### The frames of the request commands -/

/-- The bytes of a two-byte field give the field back (R184). -/
@[simp] theorem word16_bytes (w : U16) : word16 (lowByte w) (highByte w) = w := by
  refine BitVec.eq_of_getLsbD_eq fun i h => (BitVec.getLsbD_append (x := highByte w) (y := lowByte w)).trans ?_
  unfold lowByte highByte
  have h : i < 16 := h
  split
  · next low => simp [low]
  · next low =>
    rw [BitVec.getLsbD_extractLsb', Nat.add_sub_cancel' (by omega), decide_eq_true (by omega), Bool.true_and]

@[simp] theorem ofCode_code (r : Request) : Request.ofCode r.code = some r := by
  cases r <;> rfl

theorem payload_le (r : Request) : r.payload ≤ 30 := by
  cases r <;> decide

theorem frame_wellFormed (r : Request) (payload : List Byte) (h : payload.length = r.payload) :
    (r.frame payload).wellFormed = true := by
  have := payload_le r
  simp only [Frame.wellFormed, Request.frame, byteOf, BitVec.toNat_ofNat, Bool.not_false, Bool.true_and, beq_iff_eq]
  omega

/-- The frame of a request from a port of its role passes the handler's checks (R177, R178). -/
theorem checkFrame_frame {p : Port} {r : Request} {payload : List Byte} (h : payload.length = r.payload)
    (role : r.role = none ∨ r.role = some p) : checkFrame p (r.frame payload) = .ok r := by
  have code : (r.frame payload).code = r.code := rfl
  have rest : (r.frame payload).bytes.drop 2 = payload := rfl
  simp only [checkFrame, frame_wellFormed r payload h, code, ofCode_code, rest, h]
  rcases role with e | e <;> simp [e]

/-- The frame of a request of another port's role is refused for its role (R177, R178). -/
theorem checkFrame_foreign {p q : Port} {r : Request} {payload : List Byte} (h : payload.length = r.payload)
    (role : r.role = some q) (ne : p ≠ q) : checkFrame p (r.frame payload) = .error .role := by
  have code : (r.frame payload).code = r.code := rfl
  simp only [checkFrame, frame_wellFormed r payload h, code, ofCode_code, role]
  simp [Ne.symm ne]

/-! ### One service at a ready port -/

/-- The state in which the handler serves a port's frame: the frame is in the receive buffer, its BUSY response is
installed, and the rotation pointer names the port (R166, R174). -/
def serving (p : Port) (f : Frame) (s : State) : State :=
  { s with port := { s.port with
      ports := s.port.ports.set p
        { s.port.ports.get p with rx := .inService f none, response := busyResponse f.code }
      rotation := p } }

@[simp] theorem serving_run (p : Port) (f : Frame) (s : State) : (serving p f s).run = s.run := rfl
@[simp] theorem serving_plan (p : Port) (f : Frame) (s : State) : (serving p f s).plan = s.plan := rfl
@[simp] theorem serving_slots (p : Port) (f : Frame) (s : State) : (serving p f s).slots = s.slots := rfl
@[simp] theorem serving_loads (p : Port) (f : Frame) (s : State) : (serving p f s).loads = s.loads := rfl
@[simp] theorem serving_power (p : Port) (f : Frame) (s : State) : (serving p f s).power = s.power := rfl
@[simp] theorem serving_track (p : Port) (f : Frame) (s : State) : (serving p f s).track = s.track := rfl
@[simp] theorem serving_store (p : Port) (f : Frame) (s : State) : (serving p f s).store = s.store := rfl
@[simp] theorem serving_router (p : Port) (f : Frame) (s : State) : (serving p f s).router = s.router := rfl
@[simp] theorem serving_bus (p : Port) (f : Frame) (s : State) : (serving p f s).bus = s.bus := rfl
@[simp] theorem serving_log (p : Port) (f : Frame) (s : State) : (serving p f s).log = s.log := rfl
@[simp] theorem serving_resetting (p : Port) (f : Frame) (s : State) : (serving p f s).resetting = s.resetting := rfl
@[simp] theorem serving_pending (p : Port) (f : Frame) (s : State) : (serving p f s).pending = s.pending := rfl
@[simp] theorem serving_live (p : Port) (f : Frame) (s : State) : (serving p f s).live = s.live := rfl
@[simp] theorem serving_inForce (p : Port) (f : Frame) (s : State) : (serving p f s).inForce = s.inForce := rfl
@[simp] theorem serving_activeProfile (p : Port) (f : Frame) (s : State) :
    (serving p f s).activeProfile = s.activeProfile := rfl
@[simp] theorem serving_runProfile (p : Port) (f : Frame) (s : State) :
    (serving p f s).runProfile = s.runProfile := rfl

theorem ready_iff (s : State) (p : Port) :
    s.ready p = true ↔ s.resetting = none ∧ (s.port.ports.get p).rx = .empty ∧ s.run.held.get p = false ∧
      (s.bus.get p).transaction = .idle ∧ ∀ q, s.candidate q = false := by
  simp only [State.ready, State.quiet, Bool.and_eq_true, beq_iff_eq, Option.isNone_iff_eq_none,
    Bool.not_eq_true']
  constructor
  · rintro ⟨⟨⟨⟨h1, h2⟩, h7⟩, h3⟩, ⟨h4, h5⟩, h6⟩
    exact ⟨h1, h2, h7, h3, fun q => by cases q <;> assumption⟩
  · rintro ⟨h1, h2, h7, h3, h4⟩
    exact ⟨⟨⟨⟨h1, h2⟩, h7⟩, h3⟩, ⟨h4 _, h4 _⟩, h4 _⟩

/-- The state after a request frame has arrived at a ready port. -/
theorem writeFrame_ready {s : State} {p : Port} (f : Frame) (h : s.ready p = true)
    (free : ¬(s.run.state = .planning ∧ heldCode f.code = true)) :
    writeFrame p f s = setPort p
      { s.port.ports.get p with rx := .pending f, response := busyResponse f.code } s := by
  obtain ⟨-, empty, -, idle, -⟩ := (ready_iff s p).mp h
  simp only [writeFrame, idle, deliver, empty]
  exact if_neg free

/-- The handler takes the one frame that waits. -/
theorem serveUpTo_single {s : State} {p : Port} (h : s.candidate p = true)
    (others : ∀ q, q ≠ p → s.candidate q = false) (n : Nat) : serveUpTo p (n + 1) s = servePort p s := by
  have choose : s.choice = some p := by
    have h1 := others .supply
    have h2 := others .climate
    have h3 := others .dispatch
    cases p <;> (cases r : s.port.rotation) <;> simp_all [State.choice, Port.next]
  simp [serveUpTo, h, choose]

/-- A request at a ready port, whose code is not held there, is one service, with the service of the frames that it
releases (R166, R174, R175). A Soft Reset is left out. -/
theorem request_ready {s : State} {p : Port} {f : Frame} (h : s.ready p = true) (bytes : f.bytes ≠ [])
    (free : ¬(s.run.state = .planning ∧ heldCode f.code = true)) (hard : isSoftReset p f = false) :
    request p f s = serveReleased s
      (install p ((serveFrame p f (serving p f s)).2.frame f.code) (serveFrame p f (serving p f s)).1) := by
  obtain ⟨awake, empty, mine, idle, calm⟩ := (ready_iff s p).mp h
  have fresh : awaits p f s = false := by simp [awaits, empty]
  have arrived := writeFrame_ready f h free
  rw [request, if_neg (by simp [awake, bytes]), fresh]
  simp only [Bool.false_eq_true, if_false, empty, arrived]
  rw [handle]
  have taken := serveUpTo_single
    (s := setPort p { s.port.ports.get p with rx := .pending f, response := busyResponse f.code } s) (p := p)
    (by rw [candidate_of_pending (f := f) (by simp)]; simp [mine])
    (fun q hq => by
      have := calm q
      simpa [State.candidate, hq] using this) 2
  rw [taken]
  have same : takeFrame p f (setPort p { s.port.ports.get p with
      rx := .pending f, response := busyResponse f.code } s) = serving p f s := by
    simp [takeFrame, serving, setPort]
  have served : servePort p (setPort p { s.port.ports.get p with
      rx := .pending f, response := busyResponse f.code } s) =
      install p ((serveFrame p f (serving p f s)).2.frame f.code) (serveFrame p f (serving p f s)).1 := by
    unfold servePort
    simp only [setPort_ports, PerPort.get_set_self, same, hard, Bool.false_eq_true, if_false]
    simp [completeService, installResponse, endWriteInService, idle]
  rw [served]
  rfl

/-- A request that passes its first four checks and releases no held frame: the port answers, and the rest of the state
is what the service leaves. -/
theorem request_served {s t : State} {p : Port} {f : Frame} {r : Request} {reply : Reply} (h : s.ready p = true)
    (pass : checkFrame p f = .ok r) (hard : r ≠ .softReset)
    (free : ¬(s.run.state = .planning ∧ heldCode f.code = true))
    (serve : serveRequest p r (f.bytes.drop 2) (serving p f s) = (t, reply))
    (held : t.run.held = s.run.held) :
    request p f s = install p (reply.frame f.code) t := by
  obtain ⟨-, -, mine, -, -⟩ := (ready_iff s p).mp h
  have bytes : f.bytes ≠ [] := by
    intro e
    simp [checkFrame, Frame.wellFormed, e] at pass
  have soft : isSoftReset p f = false := by
    unfold isSoftReset
    rw [pass]
    cases r <;> simp_all
  rw [request_ready h bytes free soft]
  have served : serveFrame p f (serving p f s) = (t, reply) := by rw [serveFrame, pass]; exact serve
  rw [served]
  refine serveReleased_none fun q hq => ?_
  have : s.run.held.get p ≠ true := by simp [mine]
  have ne : q ≠ p := fun e => this (e ▸ hq)
  simp only [State.candidate, install, setPort_ports, setPort_run, held, hq]
  split <;> simp

/-- A request that fails a check changes nothing but its port's buffers (R177). -/
theorem request_refused {s : State} {p : Port} {f : Frame} {why : Status} (h : s.ready p = true) (bytes : f.bytes ≠ [])
    (fail : checkFrame p f = .error why)
    (free : ¬(s.run.state = .planning ∧ heldCode f.code = true)) :
    request p f s = refused p why.byte f.code s := by
  obtain ⟨-, empty, mine, -, -⟩ := (ready_iff s p).mp h
  have soft : isSoftReset p f = false := by
    unfold isSoftReset
    rw [fail]
  rw [request_ready h bytes free soft]
  have served : serveFrame p f (serving p f s) = (serving p f s, .refused why) := by rw [serveFrame, fail]
  rw [served, serveReleased_none]
  · simp [install, setPort, serving, refused, answered, Reply.frame, empty]
  · intro q hq
    have : s.run.held.get p ≠ true := by simp [mine]
    have ne : q ≠ p := fun e => this (e ▸ hq)
    simp only [State.candidate, install, setPort_ports, setPort_run, serving_run, hq]
    split <;> simp

/-- The answer of a service that leaves the ports as they were is the answer at the port alone. -/
theorem install_serving {s t : State} {p : Port} {f : Frame} (reply : List Byte) (empty : (s.port.ports.get p).rx = .empty)
    (port : t.port = (serving p f s).port) :
    install p reply t = answered p reply { t with port := s.port } := by
  simp [install, setPort, answered, port, serving, empty]

/-- A request command from a port of its role, at a ready port: the answer, from what its service leaves and replies.
The frame is named `r.frame payload`; the service acts on a state that differs from `s` in the port block alone. -/
theorem request_answers {s t : State} {p : Port} {r : Request} {payload : List Byte} {reply : Reply}
    (h : s.ready p = true) (length : payload.length = r.payload) (role : r.role = none ∨ r.role = some p)
    (hard : r ≠ .softReset) (free : ¬(s.run.state = .planning ∧ heldCode r.code = true))
    (serve : serveRequest p r payload (serving p (r.frame payload) s) = (t, reply))
    (held : t.run.held = s.run.held) :
    request p (r.frame payload) s = install p (reply.frame r.code) t :=
  request_served h (checkFrame_frame length role) hard free serve held

/-- The answer of an accepted request whose service leaves the ports alone. -/
theorem request_accepted {s t : State} {p : Port} {r : Request} {payload reply : List Byte}
    (h : s.ready p = true) (length : payload.length = r.payload) (role : r.role = none ∨ r.role = some p)
    (hard : r ≠ .softReset) (free : ¬(s.run.state = .planning ∧ heldCode r.code = true))
    (serve : serveRequest p r payload (serving p (r.frame payload) s) = (t, .ok reply))
    (port : t.port = (serving p (r.frame payload) s).port) (held : t.run.held = s.run.held) :
    request p (r.frame payload) s = answeredOk p r.code reply { t with port := s.port } := by
  obtain ⟨-, empty, -, -, -⟩ := (ready_iff s p).mp h
  rw [request_answers h length role hard free serve held, install_serving _ empty port]
  rfl

/-- The answer of a request that its service refuses. -/
theorem request_rejected {s : State} {p : Port} {r : Request} {payload : List Byte} {why : Status}
    (h : s.ready p = true) (length : payload.length = r.payload) (role : r.role = none ∨ r.role = some p)
    (hard : r ≠ .softReset) (free : ¬(s.run.state = .planning ∧ heldCode r.code = true))
    (serve : serveRequest p r payload (serving p (r.frame payload) s) =
      (serving p (r.frame payload) s, .refused why)) :
    request p (r.frame payload) s = refused p why.byte r.code s := by
  obtain ⟨-, empty, -, -, -⟩ := (ready_iff s p).mp h
  rw [request_answers h length role hard free serve rfl, install_serving _ empty rfl]
  rfl

end Sys2Proof.Machine
end

