-- ==== Sys2Proof/Laws/Ops.lean ====
section
/-! SUPPORT. What the shared operations of the Load Manager, the Envelope Monitor and the Slot Allocator do: one lemma for
each, to be cited in place of the definition. -/

namespace Sys2Proof.Machine

/-! ### Sums over the loads -/

theorem PerLoad_sum_le {x y : PerLoad Nat} (h : ∀ l, x.get l ≤ y.get l) : x.sum ≤ y.sum := by
  have h1 := h .blw
  have h2 := h .hpc
  have h3 := h .air
  have h4 := h .scr
  have h5 := h .seat
  have h6 := h .bat
  simp only [PerLoad.get] at h1 h2 h3 h4 h5 h6
  simp only [PerLoad.sum]
  omega

theorem PerLoad_sum_set (x : PerLoad Nat) (l : Load) (v : Nat) : (x.set l v).sum + x.get l = x.sum + v := by
  cases l <;> simp only [PerLoad.set, PerLoad.get, PerLoad.sum] <;> omega

theorem PerLoad_get_le_sum (x : PerLoad Nat) (l : Load) : x.get l ≤ x.sum := by
  cases l <;> simp only [PerLoad.get, PerLoad.sum] <;> omega

/-! ### The issue of a grant set (R90) -/

/-- The grant that the writer hands over for a load, or the grant in force. -/
def handedGrant (b : LoadBlock) (h : Handed) (l : Load) : Nat :=
  ((h.get l).getD (b.grants.get l, b.reasons.get l)).1

theorem issueOne_grant (r : LoadRecord) (c : Grant) (h : Option Grant) :
    (issueOne r c h).1 = (h.getD c).1 ∨ (issueOne r c h).1 = 0 := by
  unfold issueOne
  dsimp only
  repeat' split
  all_goals simp

theorem coupleBlower_grant (b : Nat) (g : Grant) : (coupleBlower b g).1 = g.1 ∨ (coupleBlower b g).1 = 0 := by
  unfold coupleBlower
  split <;> simp

/-- A new grant is the one handed over, or 0. -/
theorem issuedSet_grant (b : LoadBlock) (h : Handed) (l : Load) :
    ((issuedSet b h).get l).1 = handedGrant b h l ∨ ((issuedSet b h).get l).1 = 0 := by
  have one := fun l => issueOne_grant (b.records.get l) (b.grants.get l, b.reasons.get l) (h.get l)
  unfold handedGrant
  cases l with
  | hpc =>
    rcases coupleBlower_grant (issueOne (b.records.get .blw) (b.grants.get .blw, b.reasons.get .blw) (h.get .blw)).1
      (issueOne (b.records.get .hpc) (b.grants.get .hpc, b.reasons.get .hpc) (h.get .hpc)) with e | e
    · rcases one .hpc with o | o
      · exact .inl (e.trans o)
      · exact .inr (e.trans o)
    · exact .inr e
  | air =>
    rcases coupleBlower_grant (issueOne (b.records.get .blw) (b.grants.get .blw, b.reasons.get .blw) (h.get .blw)).1
      (issueOne (b.records.get .air) (b.grants.get .air, b.reasons.get .air) (h.get .air)) with e | e
    · rcases one .air with o | o
      · exact .inl (e.trans o)
      · exact .inr (e.trans o)
    · exact .inr e
  | blw => exact one .blw
  | scr => exact one .scr
  | seat => exact one .seat
  | bat => exact one .bat

/-- No new grant is above the one handed over. -/
theorem issuedSet_le (b : LoadBlock) (h : Handed) (l : Load) : ((issuedSet b h).get l).1 ≤ handedGrant b h l := by
  rcases issuedSet_grant b h l with e | e <;> omega

/-- A load that may not run has no grant in the new set (R90, step 2). -/
theorem issuedSet_stopped (b : LoadBlock) (h : Handed) (l : Load)
    (stopped : (b.records.get l).inhibited = true ∨ (b.records.get l).state = .faulted ∨
      (b.records.get l).state = .cooldown) : ((issuedSet b h).get l).1 = 0 := by
  have one : ∀ c o, (issueOne (b.records.get l) c o).1 = 0 := by
    intro c o
    unfold issueOne
    rcases stopped with e | e | e <;> simp only [e] <;> (repeat' split) <;> simp_all
  have two : ∀ x c o, (coupleBlower x (issueOne (b.records.get l) c o)).1 = 0 := by
    intro x c o
    rcases coupleBlower_grant x (issueOne (b.records.get l) c o) with e | e
    · rw [e, one]
    · exact e
  cases l with
  | hpc => exact two _ _ _
  | air => exact two _ _ _
  | blw => exact one _ _
  | scr => exact one _ _
  | seat => exact one _ _
  | bat => exact one _ _

/-- Without a grant for the blower there is none for the heaters (R90, step 3). -/
theorem issuedSet_blower (b : LoadBlock) (h : Handed) (e : (issuedSet b h).blw.1 = 0) :
    (issuedSet b h).hpc.1 = 0 ∧ (issuedSet b h).air.1 = 0 := by
  simp only [issuedSet] at e
  simp only [issuedSet, coupleBlower, e]
  constructor <;> split <;> simp_all

@[simp] theorem issueFrom_grants (r : LoadRecord) (h : Handed) (s : State) (l : Load) :
    (issueFrom r h s).loads.grants.get l = ((issuedSet s.loads h).get l).1 := by
  simp [issueFrom, raise, LoadBlock.issued]

@[simp] theorem issueFrom_reasons (r : LoadRecord) (h : Handed) (s : State) (l : Load) :
    (issueFrom r h s).loads.reasons.get l = ((issuedSet s.loads h).get l).2 := by
  simp [issueFrom, raise, LoadBlock.issued]

@[simp] theorem issueFrom_records (r : LoadRecord) (h : Handed) (s : State) (l : Load) :
    (issueFrom r h s).loads.records.get l =
      (s.loads.records.get l).afterGrant l ((issuedSet s.loads h).get l).1 := by
  simp [issueFrom, raise, LoadBlock.issued]

@[simp] theorem issueFrom_limits (r : LoadRecord) (h : Handed) (s : State) :
    (issueFrom r h s).loads.hpcLimit = s.loads.hpcLimit ∧ (issueFrom r h s).loads.airLimit = s.loads.airLimit ∧
      (issueFrom r h s).loads.batLimit = s.loads.batLimit := ⟨rfl, rfl, rfl⟩

/-- What an issue does to the load block (R90, steps 1 to 6), in one statement: the sequence advances, the
acknowledged set stops being current and keeps its grants, and the forced-off count follows R82. -/
theorem issueFrom_spec (r : LoadRecord) (h : Handed) (s : State) :
    (issueFrom r h s).loads.sequence = s.loads.sequence + 1 ∧ (issueFrom r h s).loads.ackCurrent = false ∧
      (issueFrom r h s).loads.ackGrants = s.loads.ackGrants ∧
      (issueFrom r h s).loads.forcedOff =
        (if s.loads.grants.hpc ≠ 0 ∧ (issuedSet s.loads h).hpc.1 = 0 ∧ r.minimumOn = true then
          bump 255 s.loads.forcedOff else s.loads.forcedOff) := by
  refine ⟨rfl, rfl, rfl, ?_⟩
  simp [issueFrom, raise, LoadBlock.issued, and_assoc]

/-- The sum of the grants after an issue is at most the sum of the grants handed over. -/
theorem issueFrom_sum (r : LoadRecord) (h : Handed) (s : State) :
    (issueFrom r h s).loads.grants.sum ≤ (PerLoad.ofFn (handedGrant s.loads h)).sum :=
  PerLoad_sum_le fun l => by simpa using issuedSet_le s.loads h l

/-- An issue that hands no load more than it has does not raise the sum of the grants. -/
theorem issueFrom_sum_le (r : LoadRecord) (h : Handed) (s : State)
    (lower : ∀ l g, h.get l = some g → g.1 ≤ s.loads.grants.get l) :
    (issueFrom r h s).loads.grants.sum ≤ s.loads.grants.sum := by
  refine PerLoad_sum_le fun l => ?_
  rw [issueFrom_grants]
  refine le_trans (issuedSet_le _ _ l) ?_
  unfold handedGrant
  cases e : h.get l with
  | none => exact le_refl _
  | some g => exact lower l g e

/-- A zero grant set leaves every grant at 0 (R91). -/
theorem issueZero_grants (s : State) : (issueZero s).loads.grants = .all 0 := by
  ext l
  have := issuedSet_le s.loads (.ofFn fun l => some (0, idleReason (s.loads.records.get l))) l
  simp [handedGrant] at this
  simp [issueZero, issue, this]

/-! ### The shed and the budget (R100, R101, R108 to R110) -/

theorem shedGrant_le (l : Load) (g e : Nat) : shedGrant l g e ≤ g := by
  unfold shedGrant roundDown
  split
  · dsimp only
    split
    · omega
    · exact le_trans (Nat.div_mul_le_self _ _) (Nat.sub_le _ _)
  · omega

/-- A load that a shed reaches is lowered by the whole excess, or to 0. -/
theorem shedGrant_drop (l : Load) (g e : Nat) : shedGrant l g e ≤ g - e := by
  unfold shedGrant roundDown
  split
  · dsimp only
    split
    · omega
    · exact Nat.div_mul_le_self _ _
  · omega

/-- The grants that the walk of a shed hands over bring the sum to the budget once every load has been reached. -/
theorem shedWalk_sum (b : LoadBlock) (budget : Nat) (ls : List Load) (grants : PerLoad Nat) (h : Handed)
    (agree : ∀ l, handedGrant b h l = grants.get l)
    (rest : ∀ l, l ∉ ls → grants.sum ≤ budget ∨ grants.get l = 0) :
    (PerLoad.ofFn (handedGrant b (shedWalk budget ls grants h))).sum ≤ budget := by
  induction ls generalizing grants h with
  | nil =>
    have same : PerLoad.ofFn (handedGrant b h) = grants := by ext l; simp [agree]
    rw [shedWalk, same]
    by_cases ok : grants.sum ≤ budget
    · exact ok
    · have zero := fun l => (rest l (by simp)).resolve_left ok
      have : grants = .all 0 := by ext l; simp [zero]
      rw [this]
      exact Nat.zero_le _
  | cons l ls ih =>
    rw [shedWalk]
    split
    · next ok =>
      have same : PerLoad.ofFn (handedGrant b h) = grants := by ext m; simp [agree]
      rw [same]
      exact ok
    · next above =>
      split
      · next zero =>
        refine ih grants h agree fun m hm => ?_
        by_cases e : m = l
        · exact .inr (e ▸ zero)
        · exact rest m (by simp [e, hm])
      · dsimp only
        refine ih _ _ (fun m => ?_) fun m hm => ?_
        · unfold handedGrant
          by_cases e : m = l
          · subst e; simp
          · simp only [PerLoad.get_set_ne _ e (v := some _)]
            rw [PerLoad.get_set_ne _ _ e]
            exact agree m
        · by_cases e : m = l
          · subst e
            have drop := shedGrant_drop m (grants.get m) (grants.sum - budget)
            have sum := PerLoad_sum_set grants m (shedGrant m (grants.get m) (grants.sum - budget))
            have part := PerLoad_get_le_sum grants m
            rw [PerLoad.get_set_self]
            by_cases big : grants.get m ≤ grants.sum - budget
            · right; omega
            · left; omega
          · rw [PerLoad.get_set_ne _ _ e]
            refine (rest m (by simp [e, hm])).imp (fun ok => ?_) id
            exact absurd ok above

theorem mem_place (p : Profile) (l m : Load) (ls : List Load) : m ∈ p.place l ls ↔ m = l ∨ m ∈ ls := by
  induction ls with
  | nil => simp [Profile.place]
  | cons x xs ih =>
    rw [Profile.place]
    split
    · simp
    · simp [ih]; tauto

/-- Every load has its place in the allocation order (R64). -/
theorem mem_order (p : Profile) (l : Load) : l ∈ p.order := by
  cases l <;> simp [Profile.order, Load.all, mem_place]

theorem shed_sum (p : Profile) (s : State) : (shed p s).loads.grants.sum ≤ s.power.budget := by
  have walk := shedWalk_sum s.loads s.power.budget p.order.reverse s.loads.grants .nothing
    (fun l => by cases l <;> rfl) (fun l h => absurd (by simp [mem_order]) h)
  simp only [shed, raise_loads, countShed_loads]
  exact le_trans (issueFrom_sum _ _ s) walk

@[simp] theorem computeBudget_budget (p : Profile) (s : State) :
    (computeBudget p s).power = { s.power with budget := s.power.budgetFor p } := by
  unfold computeBudget
  dsimp only
  split <;> simp

/-- After a computation of the budget the grants keep to it (R108). -/
theorem computeBudget_within (p : Profile) (s : State) :
    (computeBudget p s).loads.grants.sum ≤ (computeBudget p s).power.budget := by
  rw [computeBudget_budget]
  unfold computeBudget
  dsimp only
  split
  · exact shed_sum p _
  · next h => exact not_lt.mp h

theorem reexamine_within (p : Profile) (s : State) :
    (reexamine p s).loads.grants.sum ≤ (reexamine p s).power.budget := computeBudget_within p _

/-- A budget at or above the sum of the grants leaves everything but the budget alone (R108). -/
theorem computeBudget_keeps (p : Profile) (s : State) (h : s.loads.grants.sum ≤ s.power.budgetFor p) :
    computeBudget p s = { s with power := { s.power with budget := s.power.budgetFor p } } := by
  unfold computeBudget
  dsimp only
  rw [if_neg (not_lt.mpr h)]

/-! ### The allocation (R65 to R67) -/

theorem offer_le_left (l : Load) (d left : Nat) : offer l d left ≤ left := by
  unfold offer roundDown
  split
  · dsimp only
    split
    · omega
    · exact le_trans (Nat.div_mul_le_self _ _) (by omega)
  · split <;> omega

theorem offer_le_demand (l : Load) (d left : Nat) : offer l d left ≤ d := by
  unfold offer roundDown
  split
  · dsimp only
    split
    · omega
    · exact le_trans (Nat.div_mul_le_self _ _) (by omega)
  · split <;> omega

/-- A load's grant is an offer from its demand and the budget left, or 0. -/
theorem grantOne_grant (i : AllocInputs) (l : Load) (d blw left : Nat) :
    (grantOne i l d blw left).1 = 0 ∨ (grantOne i l d blw left).1 = offer l d left := by
  unfold grantOne
  split
  · exact .inl rfl
  · split
    · exact .inl rfl
    · split
      · exact .inl rfl
      · exact .inr rfl

theorem grantOne_le (i : AllocInputs) (l : Load) (d blw left : Nat) : (grantOne i l d blw left).1 ≤ left := by
  rcases grantOne_grant i l d blw left with e | e
  · omega
  · rw [e]; exact offer_le_left l d left

/-- The grants of a set of reasons and grants. -/
def grantsOf (x : PerLoad Grant) : PerLoad Nat := .ofFn fun l => (x.get l).1

theorem grantsOf_set (x : PerLoad Grant) (l : Load) (g : Grant) : grantsOf (x.set l g) = (grantsOf x).set l g.1 := by
  cases l <;> rfl

/-- The walk adds at most the budget left to the grants made so far. -/
theorem allocWalk_sum (i : AllocInputs) (d : PerLoad Nat) (ls : List Load) (left : Nat) (done : PerLoad Grant) :
    (grantsOf (allocWalk i d ls left done)).sum ≤ (grantsOf done).sum + left := by
  induction ls generalizing left done with
  | nil => simp [allocWalk]
  | cons l ls ih =>
    rw [allocWalk]
    refine le_trans (ih _ _) ?_
    rw [grantsOf_set]
    have sum := PerLoad_sum_set (grantsOf done) l (grantOne i l (d.get l) done.blw.1 left).1
    have le := grantOne_le i l (d.get l) done.blw.1 left
    omega

/-- The grants of one allocation add up to at most the budget in force (R66). -/
theorem allocate_sum (i : AllocInputs) : (grantsOf (allocate i)).sum ≤ i.budget := by
  have := allocWalk_sum i (demands i) i.profile.order i.budget (.all (0, .noDemand))
  simpa [allocate, grantsOf, PerLoad.all, PerLoad.sum, PerLoad.ofFn, PerLoad.get] using this

end Sys2Proof.Machine
end

