-- ==== Sys2Proof/Laws/Steps.lean ====
section
/-! SUPPORT. What a step can do, once: a property that the parts of a step keep is kept by every command. -/

namespace Sys2Proof.Machine

/-- The parts of a step, each of which keeps a property: the ports and the buses and the queue change, a frame is held or
released, an overflow is raised, a request is served, a reset falls, grows or is released, the counters count, and the
events of the time base are taken where they are due. -/
structure Kept (P : State → Prop) : Prop where
  port : ∀ s x, P s → P { s with port := x }
  bus : ∀ s x, P s → P { s with bus := x }
  queue : ∀ s x, P s → P { s with pending := x }
  hold : ∀ s x, P s → P { s with run := { s.run with held := x } }
  overflow : ∀ p s, P s → P (raiseAt p .portOverflow s)
  serve : ∀ p r b s, s.resetting = none → P s → P (serveRequest p r b s).1
  fall : ∀ k c s, P s → P (fallReset k c s)
  cause : ∀ c d s, s.resetting = some c → P s → P { s with resetting := some d }
  release : ∀ c x s, s.resetting = some c → P s → P (release c x s)
  countTime : ∀ s, s.resetting = none → P s → P (countTime s)
  countGrants : ∀ s, s.resetting = none → P s → P (countGrants s)
  tickEnd : ∀ s, s.resetting = none → P s → P { s with log := { s.log with countDue := .none } }
  sensor : ∀ s, s.resetting = none → sensorExpiryDue s = true → P s → P (sensorExpiry s)
  lapse : ∀ s, s.resetting = none → holdExpiryDue s = true → P s → P (holdExpiry s)
  timeout : ∀ s, s.resetting = none → startTimeoutDue s = true → P s → P (startTimeouts s)
  cooldown : ∀ s, s.resetting = none → cooldownEndDue s = true → P s → P (endCooldown s)
  phase : ∀ s, s.resetting = none → phaseChangeDue s = true → P s → P (changePhase s)
  slot : ∀ s, s.resetting = none → slotStartDue s = true → P s → P (startSlot s)
  check : ∀ s, s.resetting = none → checkDue s = true → P s → P (scheduleCheck s)
  expire : ∀ s, s.resetting = none → s.expired = true → P s → P (expire s)
  complete : ∀ c s, s.resetting = none → s.run.state = .planning → s.plan.capture = some c → s.expired = false →
    P s → P (completePlan c s)

variable {P : State → Prop}

/-! ### The ports -/

theorem Kept.setPort (k : Kept P) {s : State} (p : Port) (t : TargetPort) (h : P s) : P (setPort p t s) :=
  k.port _ _ h

theorem Kept.setBus (k : Kept P) {s : State} (p : Port) (b : Bus) (h : P s) : P (setBus p b s) := k.bus _ _ h

theorem Kept.install (k : Kept P) {s : State} (p : Port) (r : List Byte) (h : P s) : P (install p r s) := k.port _ _ h

theorem Kept.endRead (k : Kept P) {s : State} (p : Port) (h : P s) : P (endRead p s) := by
  unfold Machine.endRead
  dsimp only
  split
  · exact k.install _ _ (k.setBus _ _ h)
  · exact k.setBus _ _ h

theorem Kept.returnFrame (k : Kept P) {s : State} (p : Port) (f : List Byte) (n : Nat) (e : Bool) (h : P s) :
    P (returnFrame p f n e s) := k.bus _ _ h

theorem Kept.deliver (k : Kept P) {s : State} (p : Port) (f : Frame) (h : P s) : P (deliver p f s) := by
  unfold Machine.deliver
  dsimp only
  split
  · split
    · exact k.hold _ _ (k.setPort _ _ h)
    · exact k.setPort _ _ h
  · exact k.overflow _ _ (k.setPort _ _ h)
  · exact k.overflow _ _ (k.setPort _ _ h)

theorem Kept.endWrite (k : Kept P) {s : State} (p : Port) (f : Frame) (h : P s) : P (endWrite p f s) := by
  unfold Machine.endWrite
  dsimp only
  split
  · exact k.setBus _ _ h
  · exact k.deliver _ _ (k.setBus _ _ h)

theorem Kept.freeBus (k : Kept P) {s : State} (p : Port) (h : P s) : P (freeBus p s) := by
  unfold Machine.freeBus
  split
  · exact h
  · exact h
  · exact k.endRead _ h
  · exact k.endRead _ h
  · exact k.endWrite _ _ h

theorem Kept.endWriteInService (k : Kept P) {s : State} (p : Port) (h : P s) : P (endWriteInService p s) := by
  unfold Machine.endWriteInService
  split
  · split
    · exact k.endWrite _ _ h
    · exact h
  · exact h
  · exact h
  · exact h
  · exact h

theorem Kept.writeFrame (k : Kept P) {s : State} (p : Port) (f : Frame) (h : P s) : P (writeFrame p f s) := by
  unfold Machine.writeFrame
  split
  · exact h
  · exact k.deliver _ _ h
  · exact k.deliver _ _ (k.freeBus _ h)
  · exact k.deliver _ _ (k.freeBus _ h)
  · exact k.deliver _ _ (k.freeBus _ h)

theorem Kept.proceedWrite (k : Kept P) {s : State} (p : Port) (f : Frame) (e : WriteEnd) (h : P s) :
    P (proceedWrite p f e s) := by
  cases e with
  | stop => exact k.endWrite _ _ h
  | goesOn => exact k.setBus _ _ h
  | inService => exact k.setBus _ _ h

theorem Kept.writeBytes (k : Kept P) {s : State} (p : Port) (data : List Byte) (e : WriteEnd) (h : P s) :
    P (writeBytes p data e s) := by
  unfold Machine.writeBytes
  split
  · exact h
  · exact k.proceedWrite _ _ _ h
  · exact k.proceedWrite _ _ _ h
  · exact k.proceedWrite _ _ _ (k.freeBus _ h)
  · exact k.proceedWrite _ _ _ (k.freeBus _ h)

/-! ### The Request Handler -/

theorem Kept.installResponse (k : Kept P) {s : State} (p : Port) (f : Frame) (r : List Byte) (h : P s) :
    P (installResponse p f r s) := by
  unfold Machine.installResponse
  split
  · exact k.setPort _ _ h
  · exact k.returnFrame _ _ _ _ (k.install _ _ h)
  · exact k.install _ _ h
  · exact k.install _ _ h
  · exact k.install _ _ h

theorem Kept.completeService (k : Kept P) {s : State} (p : Port) (f : Frame) (r : List Byte) (h : P s) :
    P (completeService p f r s) := k.installResponse _ _ _ (k.endWriteInService _ h)

theorem Kept.serveFrame (k : Kept P) {s : State} (p : Port) (f : Frame) (awake : s.resetting = none) (h : P s) :
    P (serveFrame p f s).1 := by
  unfold Machine.serveFrame
  split
  · exact h
  · exact k.serve _ _ _ _ awake h

theorem endRead_resetting (p : Port) (s : State) : (endRead p s).resetting = s.resetting := by
  unfold endRead
  dsimp only
  split <;> rfl

theorem deliver_resetting (p : Port) (f : Frame) (s : State) : (deliver p f s).resetting = s.resetting := by
  unfold deliver
  dsimp only
  split
  · split <;> rfl
  · rfl
  · rfl

theorem endWrite_resetting (p : Port) (f : Frame) (s : State) : (endWrite p f s).resetting = s.resetting := by
  unfold endWrite
  dsimp only
  split
  · rfl
  · rw [deliver_resetting]; rfl

theorem freeBus_resetting (p : Port) (s : State) : (freeBus p s).resetting = s.resetting := by
  unfold freeBus
  split <;> simp [endRead_resetting, endWrite_resetting]

theorem endWriteInService_resetting (p : Port) (s : State) : (endWriteInService p s).resetting = s.resetting := by
  unfold endWriteInService
  split
  · split
    · exact endWrite_resetting _ _ _
    · rfl
  all_goals rfl

theorem writeFrame_resetting (p : Port) (f : Frame) (s : State) : (writeFrame p f s).resetting = s.resetting := by
  unfold writeFrame
  split <;> simp [deliver_resetting, freeBus_resetting]

theorem completeService_resetting (p : Port) (f : Frame) (r : List Byte) (s : State) :
    (completeService p f r s).resetting = s.resetting := by
  rw [← endWriteInService_resetting p s]
  unfold completeService installResponse
  split <;> rfl

/-- No frame waits in a state that a reset has just made. -/
theorem fallReset_candidate (k : ResetKind) (c : ResetCauses) (s : State) (p : Port) :
    (fallReset k c s).candidate p = false := by
  cases p <;> rfl

/-- The handler may go on: no reset is in progress, or nothing waits. -/
def Calm (s : State) : Prop := s.resetting = none ∨ ∀ p, s.candidate p = false

theorem Kept.servePort (k : Kept P) {s : State} (p : Port) (awake : s.resetting = none) (h : P s) :
    P (servePort p s) ∧ Calm (servePort p s) := by
  unfold Machine.servePort
  split
  · next f _ =>
    have taken : P (takeFrame p f s) := k.port _ _ (k.setPort _ _ h)
    have served := k.serveFrame p f (s := takeFrame p f s) awake taken
    dsimp only
    split
    · exact ⟨k.fall _ _ _ (k.install _ _ served), .inr (fallReset_candidate _ _ _)⟩
    · refine ⟨k.completeService _ _ _ served, .inl ?_⟩
      rw [completeService_resetting, serveFrame_resetting]
      exact awake
  · exact ⟨h, .inl awake⟩
  · exact ⟨h, .inl awake⟩

theorem choice_candidate {s : State} {q : Port} (h : s.choice = some q) : s.candidate q = true :=
  List.find?_some h

theorem Kept.serveUpTo (k : Kept P) (p : Port) (n : Nat) {s : State} (calm : Calm s) (h : P s) :
    P (serveUpTo p n s) ∧ Calm (serveUpTo p n s) := by
  induction n generalizing s with
  | zero => exact ⟨h, calm⟩
  | succ n ih =>
    rw [Machine.serveUpTo]
    split
    · next waits =>
      split
      · exact ⟨h, calm⟩
      · have awake : s.resetting = none := calm.resolve_right fun none => by simp [none p] at waits
        split
        · exact k.servePort _ awake h
        · obtain ⟨h', calm'⟩ := k.servePort _ awake h
          exact ih calm' h'
    · exact ⟨h, calm⟩

theorem Kept.serveWhile (k : Kept P) (more : State → Bool) (n : Nat) {s : State} (calm : Calm s) (h : P s) :
    P (serveWhile more n s) ∧ Calm (serveWhile more n s) := by
  induction n generalizing s with
  | zero => exact ⟨h, calm⟩
  | succ n ih =>
    rw [Machine.serveWhile]
    split
    · split
      · exact ⟨h, calm⟩
      · next q chosen =>
        have awake : s.resetting = none := calm.resolve_right fun none => by
          have := none q
          simp [choice_candidate chosen] at this
        obtain ⟨h', calm'⟩ := k.servePort q awake h
        exact ih calm' h'
    · exact ⟨h, calm⟩

theorem Kept.serveReleased (k : Kept P) (before : State) {s : State} (calm : Calm s) (h : P s) :
    P (serveReleased before s) ∧ Calm (serveReleased before s) := k.serveWhile _ _ calm h

theorem Kept.handle (k : Kept P) {s : State} (p : Port) (awake : s.resetting = none) (h : P s) : P (handle p s) := by
  obtain ⟨h', calm'⟩ := k.serveUpTo p 3 (.inl awake) h
  exact (k.serveReleased _ calm' h').1

theorem Kept.request (k : Kept P) {s : State} (p : Port) (f : Frame) (h : P s) : P (request p f s) := by
  unfold Machine.request
  split
  · exact h
  · next stay =>
    have awake : s.resetting = none := by
      cases e : s.resetting <;> simp_all
    split
    · exact k.handle _ awake h
    · split
      · exact k.writeFrame _ _ h
      · exact k.handle _ (by rw [writeFrame_resetting]; exact awake) (k.writeFrame _ _ h)
      · exact k.handle _ (by rw [writeFrame_resetting]; exact awake) (k.writeFrame _ _ h)

/-! ### The time base -/

theorem Kept.takeIf (_k : Kept P) {due : State → Bool} {act : State → State} {s : State}
    (keep : due s = true → P s → P (act s)) (h : P s) : P (takeIf due act s) := by
  unfold Machine.takeIf
  split
  · next d => exact keep d h
  · exact h

/-- An event taken last, after which the handler may go on. -/
theorem Kept.lastOf (_k : Kept P) {due : State → Bool} {act : State → State} {s : State} (awake : s.resetting = none)
    (keep : due s = true → P s → P (act s) ∧ Calm (act s)) (h : P s) :
    P (Machine.takeIf due act s) ∧ Calm (Machine.takeIf due act s) := by
  unfold Machine.takeIf
  split
  · next d => exact keep d h
  · exact ⟨h, .inl awake⟩

theorem takeIf_resetting {due : State → Bool} {act : State → State} {s : State}
    (keep : (act s).resetting = s.resetting) : (takeIf due act s).resetting = s.resetting := by
  unfold takeIf
  split
  · exact keep
  · rfl

theorem sensorExpiry_resetting (s : State) : (sensorExpiry s).resetting = s.resetting := by
  unfold sensorExpiry
  dsimp only
  split <;> simp

theorem holdExpiry_resetting (s : State) : (holdExpiry s).resetting = s.resetting := by
  unfold holdExpiry
  dsimp only
  split <;> simp

theorem startTimeouts_resetting (s : State) : (startTimeouts s).resetting = s.resetting := by
  simp [startTimeouts]

theorem startSlot_resetting (s : State) : (startSlot s).resetting = s.resetting := by
  unfold startSlot
  split <;> simp

theorem countGrants_resetting (s : State) : (countGrants s).resetting = s.resetting := rfl

theorem closeTick_resetting (s : State) : (closeTick s).resetting = s.resetting := by
  unfold closeTick
  split
  · rfl
  · split <;> rfl

theorem closeTick_run (s : State) : (closeTick s).run = s.run := by
  unfold closeTick
  split
  · rfl
  · split <;> rfl

theorem awake_of {s : State} (h : ¬s.resetting.isSome = true) : s.resetting = none := by
  cases e : s.resetting <;> simp_all

theorem Kept.closeTick (k : Kept P) {s : State} (h : P s) : P (closeTick s) := by
  unfold Machine.closeTick
  split
  · exact h
  · next stay =>
    split
    · exact h
    · exact k.tickEnd _ (awake_of stay) h
    · exact k.countGrants _ (awake_of stay) h

theorem Kept.expiry (k : Kept P) {s : State} (awake : s.resetting = none) (due : s.expired = true) (h : P s) :
    P (expiry s) ∧ Calm (expiry s) := by
  have still : (Machine.closeTick s).resetting = none := by rw [closeTick_resetting]; exact awake
  have came : (Machine.closeTick s).expired = true := by rw [State.expired, closeTick_run]; exact due
  exact k.serveReleased _ (.inl (by simpa using still)) (k.expire _ still came (k.closeTick h))

/-- What keeps the counter keeps the departure from expiring or lets it expire as before. -/
theorem takeIf_expired {due : State → Bool} {act : State → State} {s : State}
    (keep : (act s).run.counting = s.run.counting ∧ (act s).run.remaining = s.run.remaining) :
    (takeIf due act s).expired = s.expired := by
  unfold takeIf
  split
  · simp [State.expired, keep.1, keep.2]
  · rfl

theorem sensorExpiry_run (s : State) : (sensorExpiry s).run = s.run := by
  unfold sensorExpiry
  dsimp only
  split <;> simp

theorem holdExpiry_run (s : State) : (holdExpiry s).run = s.run := by
  unfold holdExpiry
  dsimp only
  split <;> simp

theorem startTimeouts_run (s : State) : (startTimeouts s).run = s.run := by
  simp [startTimeouts]

theorem startSlot_run (s : State) : (startSlot s).run = s.run := by
  unfold startSlot
  split <;> simp

theorem scheduleCheck_counter (s : State) : (scheduleCheck s).run.counting = s.run.counting ∧
    (scheduleCheck s).run.remaining = s.run.remaining := by
  unfold scheduleCheck
  split
  · dsimp only
    split <;> simp [startGeneration, holdPending]
  all_goals simp

/-- Where the departure has not expired, what the last tick brought keeps it so, and no reset falls. -/
theorem settle_live {s : State} (awake : s.resetting = none) (live : s.expired = false) :
    (settle s).resetting = none ∧ (settle s).expired = false := by
  have r1 := (takeIf_resetting (due := sensorExpiryDue) (sensorExpiry_resetting s)).trans awake
  have r2 := (takeIf_resetting (due := holdExpiryDue) (holdExpiry_resetting _)).trans r1
  have r3 := (takeIf_resetting (due := startTimeoutDue) (startTimeouts_resetting _)).trans r2
  have r4 := (takeIf_resetting (due := cooldownEndDue) (act := endCooldown) rfl).trans r3
  have r5 := (takeIf_resetting (due := phaseChangeDue) (act := changePhase) rfl).trans r4
  have r6 := (takeIf_resetting (due := slotStartDue) (startSlot_resetting _)).trans r5
  have r7 := (takeIf_resetting (due := checkDue) (scheduleCheck_resetting _)).trans r6
  have e1 := (takeIf_expired (due := sensorExpiryDue) (act := sensorExpiry) (s := s)
    (by simp [sensorExpiry_run])).trans live
  have e2 := (takeIf_expired (due := holdExpiryDue) (act := holdExpiry) (by simp [holdExpiry_run])).trans e1
  have e3 := (takeIf_expired (due := startTimeoutDue) (act := startTimeouts) (by simp [startTimeouts_run])).trans e2
  have e4 := (takeIf_expired (due := cooldownEndDue) (act := endCooldown) ⟨rfl, rfl⟩).trans e3
  have e5 := (takeIf_expired (due := phaseChangeDue) (act := changePhase) ⟨rfl, rfl⟩).trans e4
  have e6 := (takeIf_expired (due := slotStartDue) (act := startSlot) (by simp [startSlot_run])).trans e5
  have e7 := (takeIf_expired (due := checkDue) (act := scheduleCheck) (scheduleCheck_counter _)).trans e6
  unfold settle
  dsimp only
  rw [takeIf, if_neg (by rw [e7]; decide)]
  exact ⟨r7, e7⟩

theorem Kept.completion (k : Kept P) {s : State} (live : s.resetting = none ∧ s.expired = false) (h : P s) :
    P (completion s) := by
  unfold Machine.completion
  split
  · next c planning capture =>
    exact (k.serveReleased _ (.inl (by simpa using live.1)) (k.complete _ _ live.1 planning capture live.2 h)).1
  · exact h

theorem Kept.settle (k : Kept P) {s : State} (awake : s.resetting = none) (h : P s) :
    P (settle s) ∧ Calm (settle s) := by
  have r1 := (takeIf_resetting (due := sensorExpiryDue) (sensorExpiry_resetting s)).trans awake
  have r2 := (takeIf_resetting (due := holdExpiryDue) (holdExpiry_resetting _)).trans r1
  have r3 := (takeIf_resetting (due := startTimeoutDue) (startTimeouts_resetting _)).trans r2
  have r4 := (takeIf_resetting (due := cooldownEndDue) (act := endCooldown) rfl).trans r3
  have r5 := (takeIf_resetting (due := phaseChangeDue) (act := changePhase) rfl).trans r4
  have r6 := (takeIf_resetting (due := slotStartDue) (startSlot_resetting _)).trans r5
  have r7 := (takeIf_resetting (due := checkDue) (scheduleCheck_resetting _)).trans r6
  refine k.lastOf r7 (k.expiry r7) ?_
  refine k.takeIf (k.check _ r6) ?_
  refine k.takeIf (k.slot _ r5) ?_
  refine k.takeIf (k.phase _ r4) ?_
  refine k.takeIf (k.cooldown _ r3) ?_
  refine k.takeIf (k.timeout _ r2) ?_
  refine k.takeIf (k.lapse _ r1) ?_
  exact k.takeIf (k.sensor _ awake) h

theorem Kept.beforeTick (k : Kept P) {s : State} (awake : s.resetting = none) (h : P s) : P (beforeTick s) := by
  obtain ⟨h', calm⟩ := k.settle awake h
  exact (k.serveWhile _ _ calm h').1

theorem Kept.openTick (k : Kept P) {s : State} (h : P s) : P (openTick s) := by
  unfold Machine.openTick
  split
  · exact h
  · next stay =>
    have ready := k.beforeTick (awake_of stay) h
    dsimp only
    split
    · exact ready
    · next still => exact k.countTime _ (awake_of still) ready

theorem Kept.tick (k : Kept P) {s : State} (h : P s) : P (tick s) := by
  unfold Machine.tick
  split
  · exact k.closeTick (k.openTick h)
  · exact k.closeTick h
  · exact k.closeTick h

/-- A property that holds now holds at each moment at which an event may be taken. -/
theorem Kept.moments (k : Kept P) {s t : State} (h : P s) (m : t ∈ moments s) : P t := by
  have closed := k.closeTick h
  have opened := k.openTick closed
  simp only [Machine.moments, List.mem_cons, List.not_mem_nil, or_false] at m
  obtain rfl | rfl | rfl | rfl := m
  exacts [h, closed, opened, k.closeTick opened]

theorem Kept.tickThat (k : Kept P) {due : State → Bool} {act : State → State} {s : State}
    (keep : ∀ s, s.resetting = none → due s = true → P s → P (act s)) (h : P s) : P (tickThat due act s) := by
  unfold Machine.tickThat
  split
  · next t found =>
    have d := List.find?_some found
    simp only [Bool.and_eq_true, Option.isNone_iff_eq_none] at d
    exact keep _ d.1 d.2 (k.moments h (List.mem_of_find?_eq_some found))
  · exact h

/-! ### Every command -/

theorem Kept.beginRead (k : Kept P) {s : State} (p : Port) (n : Nat) (e : Bool) (h : P s) : P (beginRead p n e s) := by
  unfold Machine.beginRead
  dsimp only
  split
  · exact k.setBus _ _ h
  · exact k.returnFrame _ _ _ _ h

theorem Kept.passOver (k : Kept P) {s : State} (p : Port) (h : P s) : P (passOver p s) := by
  unfold Machine.passOver
  split
  · exact h
  · exact k.freeBus _ h

theorem Kept.clockMore (k : Kept P) {s : State} (p : Port) (n : Nat) (h : P s) : P (clockMore p n s) := by
  unfold Machine.clockMore
  dsimp only
  split
  · exact k.setBus _ _ h
  · exact k.setBus _ _ h
  · exact h
  · exact h
  · exact h

/-- A property that the parts of a step keep is kept by every command. -/
theorem Kept.exec (k : Kept P) {c : Instr} {s t : State} (h : P s) (e : exec c s = .next t) : P t := by
  cases c with
  | finishedWrite p address data =>
    cases e
    split
    · exact k.writeBytes _ _ _ h
    · exact k.passOver _ h
  | responseRead p address count stops =>
    cases e
    split
    · split
      · exact h
      · exact k.beginRead _ _ _ h
      · exact k.beginRead _ _ _ (k.freeBus _ h)
      · exact k.beginRead _ _ _ (k.freeBus _ h)
      · exact k.beginRead _ _ _ (k.freeBus _ h)
    · exact k.passOver _ h
  | stretchLimit p =>
    cases e
    split
    · exact k.returnFrame _ _ _ _ h
    · exact h
    · exact h
    · exact h
    · exact h
  | deferredInstallation p count =>
    cases e
    split
    · exact k.endRead _ (k.clockMore _ _ h)
    · exact k.endRead _ (k.clockMore _ _ h)
    · exact h
    · exact h
    · exact h
  | timeBaseTick => cases e; exact k.tick h
  | departureExpiry => cases e; exact k.tickThat (fun _ a d h => (k.expiry a d h).1) h
  | scheduleCheck => cases e; exact k.tickThat k.check h
  | planCompletion =>
    cases e
    split
    · exact h
    · next stay =>
      have awake : s.resetting = none := awake_of stay
      obtain ⟨settled, -⟩ := k.settle awake h
      split
      · split
        · exact settled
        · next due => exact k.completion (settle_live awake (by simpa using due)) settled
      all_goals exact h
  | phaseChange => cases e; exact k.tickThat k.phase h
  | slotStart => cases e; exact k.tickThat k.slot h
  | holdTimerExpiry => cases e; exact k.tickThat k.lapse h
  | startTimeout => cases e; exact k.tickThat k.timeout h
  | cooldownEnd => cases e; exact k.tickThat k.cooldown h
  | minimumOnEnd => cases e; exact k.tickThat (fun _ _ _ h => h) h
  | windscreenEnergySpent => cases e; exact k.tickThat (fun _ _ _ h => h) h
  | sensorTimerExpiry => cases e; exact k.tickThat k.sensor h
  | powerOnReset => cases e; exact k.fall _ _ _ h
  | pinReset =>
    cases e
    split
    · exact k.fall _ _ _ h
    · next c r =>
      split
      · exact h
      · exact k.cause _ _ _ r h
  | resetRelease a b =>
    cases e
    split
    · exact h
    · next c r => exact k.release _ _ _ r h
  | _ => cases e; exact k.request _ _ h

/-- A property that the parts of a step keep is kept by every step. -/
theorem Kept.step (k : Kept P) {s t : State} (h : P s) (e : step s = .next t) : P t := by
  unfold Machine.step at e
  split at e
  · cases e; exact h
  · exact k.exec (k.queue _ _ h) e

end Sys2Proof.Machine
end

