-- ==== Sys2Proof/WellFormed.lean ====
section
/-! DEFINITION. Which commands are well-formed. A request command's fields take the full range of their width on the wire
(spec 09, R184), so a check is needed only where a command carries raw bytes. -/

namespace Sys2Proof

/-- A raw frame carries at least one byte, since a write without data is ignored (R164). -/
def rawNotEmpty (bytes : List Byte) : Bool := bytes != []

/-- A raw frame is one that no other request command stands for (R177): its code is not in the catalogue, or its
frame length or payload length is wrong, or it is an Inhibit Claim with an action of 3 or above (log 18). -/
def rawUnknown (bytes : List Byte) : Bool := !(Machine.frameOf bytes).namesRequest

/-- The command is well-formed. -/
def Instr.wellFormed : Instr → Bool
  | .unknownRequest _ bytes => rawNotEmpty bytes && rawUnknown bytes
  | _ => true

end Sys2Proof
end

