-- ==== Sys2Proof/Tests/Slice0.lean ====
section
/-! SUPPORT. Tests of the model: the refusals of ill-formed commands, the manual's worked cases, and a witness for the
hypotheses of each statement. Expected results stand in the section of spec/ named at each test. -/

namespace Sys2Proof.Tests

open Sys2Proof.Machine

/-! ### Well-formedness -/

theorem test_raw_frame_empty_refused : (Instr.unknownRequest .supply []).wellFormed = false := by decide

theorem test_raw_frame_of_catalogue_refused : (Instr.unknownRequest .supply [0x01, 0]).wellFormed = false := by decide

theorem test_raw_inhibit_claim_refused : (Instr.unknownRequest .climate [0x05, 2, 0, 1]).wellFormed = false := by
  decide

theorem test_raw_frame_accepted :
    (Instr.unknownRequest .climate [0x05, 2, 0, 3]).wellFormed = true ∧
    (Instr.unknownRequest .dispatch [0x7F]).wellFormed = true := by decide

/-! ### The worked case of 02, 2.6, and the states built on it -/

/-- The profile of the worked case: the defaults with blower level 3. -/
def profile : Profile := { Profile.default with blowerLevel := 3 }

/-- The capture at a remaining time of 1800. -/
def capture : Capture where
  profile := profile
  bank := 0
  tCab := some (-180)
  tOut := some (-220)
  tPack := some (-150)
  budget := 7000
  rPlan := 1800
  slotLength := 120
  hpcLimit := 4500
  airLimit := 6000
  hpcAvailable := true
  airAvailable := true
  cop := 130

/-- The plan record of the worked case. -/
def plan : PlanRecord := capture.build

/-- An entry of the table. -/
def entry (i : Nat) : SlotEntry := slotEntry profile (-180) (-220) 1800 120 i

/-- The state that a command leads to. -/
def after (c : Instr) (s : State) : State :=
  match exec c s with
  | .next t => t
  | .fault _ => s
  | .refused _ => s

/-- A load record without claims. -/
def record (st : LoadState) (age : Nat) : LoadRecord := ⟨st, age, .all false, none⟩

/-- Bank 0 as in the worked case, with a live envelope of 7400 W. -/
def supplied : State := { State.reset with
  store := { State.reset.store with banks := State.reset.store.banks.set 0 profile }
  power := { State.reset.power with
    latest := some ⟨true, 7400, 0, 30⟩, holdTimer := some 30, state := .live, source := .live, budget := 7000 }
  track := { State.reset.track with
    tCab := some (-180), tOut := some (-220), tPack := some (-150), sensorTimer := some 10 } }

/-- SCHEDULED at 1800, with the schedule check of that tick still to be made. -/
def scheduled : State := { supplied with
  run := { supplied.run with state := .scheduled, remaining := 1800, counting := true, checkDue := true } }

/-- PLANNING of origin START at 1800. -/
def planning : State := { supplied with
  run := { supplied.run with state := .planning, remaining := 1800, counting := true, origin := some .start }
  plan := { supplied.plan with capture := some capture } }

/-- CONDITIONING in slot 1 with sequence 42 in force (04, 4.8), at a remaining time of 1675. -/
def running : State := { supplied with
  run := { supplied.run with state := .conditioning, remaining := 1675, counting := true }
  plan := { supplied.plan with
    plan := some { plan with
      slots := plan.slots.set 1 { entry 1 with
        actual := some ⟨⟨300, 3100, 0, 0, 0, 3500⟩, ⟨true, false, false, false, false, false⟩, 0, none⟩ } } }
  slots := { supplied.slots with openSlot := some 1, screenEnergy := 900000 }
  loads := { supplied.loads with
    records := { supplied.loads.records with
      blw := record .running 120, hpc := record .running 115, bat := record .running 120 }
    sequence := 42
    grants := ⟨300, 3100, 0, 0, 0, 3500⟩
    reasons := ⟨.granted, .granted, .noDemand, .noDemand, .noDemand, .budget⟩
    ackGrants := ⟨300, 2500, 0, 0, 0, 3750⟩ }
  track := { supplied.track with tCab := some (-158), tPack := some (-140), tracker := .acq1 }
  log := { supplied.log with acc := ⟨0, 125, .all 0, true⟩ } }

/-- The same run in slot 0 with sequence 41 in force (05, 5.9). -/
def slotZero : State := { running with
  slots := { running.slots with openSlot := some 0 }
  loads := { running.loads with
    records := { running.loads.records with hpc := record .running 40 }
    sequence := 41
    grants := ⟨300, 2500, 0, 0, 0, 3750⟩
    reasons := ⟨.granted, .granted, .noDemand, .noDemand, .noDemand, .granted⟩ } }

/-- The run on track, at a remaining time of 1400 (06, 6.6). -/
def onTrack (remaining : Nat) : State := { running with
  run := { running.run with remaining := remaining }
  track := { running.track with tracker := .onTrack, track := true, tracks := true } }

/-! ### Planning (02, 2.6 to 2.8; 06, 6.4) -/

theorem test_lead_worked_case :
    heatingTime capture.leadInputs = some 1254 ∧ leadOf profile 120 (some 1254) = 1800 := by decide

theorem test_slot_table_worked_case :
    plan.slots.length = 15 ∧ (plan.slots.map fun e => (e.stop, e.trajEnd, e.forecast)) =
      [(1680, -152, 3160), (1560, -124, 3412), (1440, -96, 3664), (1320, -68, 3916), (1200, -40, 4168),
       (1080, -12, 4420), (960, 15, 4572), (840, 43, 4915), (720, 71, 5167), (600, 99, 5419), (480, 127, 5671),
       (360, 155, 5923), (240, 183, 6175), (120, 210, 6327), (0, 210, 3870)] := by decide +kernel

theorem test_slot_table_partial_slot :
    let r := { capture with rPlan := 1000, tCab := some 20 }.build
    r.slots.length = 9 ∧ ((r.slots.take 2).map fun e => (e.start, e.stop, e.trajEnd, e.forecast)) =
      [(1000, 960, 29, 4860), (960, 840, 55, 4841)] := by decide +kernel

theorem test_cop_breakpoints :
    CopTable.default.at (-220) = 130 ∧ CopTable.default.at (-200) = 160 ∧ CopTable.default.at (-400) = 100 ∧
    CopTable.default.at 300 = 400 := by decide

theorem test_readiness_margins :
    readinessMargin 1800 120 (some 1254) = 426 ∧ readinessMargin 1680 120 (some 1215) = 345 ∧
    readinessMargin 600 120 none = -32767 ∧
    readinessClass profile (-180) 1800 (some 1254) = .onTime := by decide

theorem test_lead_at_slot_one :
    heatingTime { capture.leadInputs with tCab := -158 } = some 1215 := by decide

theorem test_lean_cabin_unreachable :
    heatingTime { capture.leadInputs with tCab := 95, budget := 1900 } = none := by decide

/-! ### Allocation (03, 3.8 to 3.10) -/

/-- Slot 0 of the first plan. -/
def first : AllocInputs where
  profile := profile
  entry := entry 0
  packPlanned := true
  tCab := some (-180)
  tOut := -220
  tPack := some (-150)
  openLoop := false
  budget := 7000
  source := .live
  floor := 3
  loads := LoadBlock.powerOn
  cop := CopTable.default
  screenEnergy := 900000
  remaining := 1800

/-- Slot 1, with the cabin lagging. -/
def lagging : AllocInputs := { first with
  entry := entry 1
  tCab := some (-158)
  tPack := some (-140)
  remaining := 1680
  loads := { LoadBlock.powerOn with
    records := { LoadBlock.powerOn.records with hpc := record .running 110 } } }

/-- Slot 10 on the fallback budget. -/
def lean : AllocInputs := { first with
  entry := entry 10
  tCab := some 95
  tPack := some 20
  budget := 1900
  source := .fallback
  remaining := 600 }

theorem test_allocation_slot_zero :
    allocate first =
      ⟨(300, .granted), (2500, .granted), (0, .noDemand), (0, .noDemand), (0, .noDemand), (3750, .granted)⟩ ∧
    resultFlags first = ⟨false, false, false, false, false, false⟩ := by decide +kernel

theorem test_allocation_slot_one :
    allocate lagging =
      ⟨(300, .granted), (3100, .granted), (0, .noDemand), (0, .noDemand), (0, .noDemand), (3500, .budget)⟩ ∧
    resultFlags lagging = ⟨true, false, false, false, false, false⟩ := by decide +kernel

theorem test_allocation_lean_slot :
    demands lean = ⟨300, 4500, 250, 1200, 150, 2000⟩ ∧
    allocate lean =
      ⟨(300, .granted), (0, .budget), (250, .granted), (1200, .granted), (150, .granted), (0, .budget)⟩ ∧
    resultFlags lean = ⟨true, false, true, false, false, true⟩ := by decide +kernel

/-! ### The budget and the shed (05, 5.2, 5.9, 5.10) -/

theorem test_budget_table :
    let power := fun e : Envelope => { supplied.power with latest := some e }
    (power ⟨true, 7400, 2000, 30⟩).budgetFor { profile with allowPack := 1 } = 9000 ∧
    (power ⟨true, 7400, 2000, 30⟩).budgetFor profile = 7000 ∧
    (power ⟨false, 7400, 2000, 30⟩).budgetFor { profile with allowPack := 1 } = 1600 ∧
    (power ⟨false, 0, 300, 30⟩).budgetFor { profile with allowPack := 1 } = 0 := by decide

theorem test_envelope_drop_sheds :
    let t := after (.envelope .supply 1 4000 0 30) slotZero
    t.loads.grants = ⟨300, 2500, 0, 0, 0, 750⟩ ∧ t.loads.sequence = 42 ∧ t.loads.reasons.bat = .shed ∧
    t.loads.committed = 6550 := by decide +kernel

theorem test_envelope_drop_answers :
    (after (.envelope .supply 1 4000 0 30) slotZero).port.ports.supply.response =
      [0x00, 0x20, 4, 1, 0, 0x10, 0x0E] := by decide +kernel

theorem test_hold_expiry_sheds_to_fallback :
    let s := { running with
      power := { running.power with holdTimer := some 0 }
      loads := { running.loads with records := { running.loads.records with hpc := record .running 160 } } }
    let t := after .holdTimerExpiry s
    t.power.budget = 1900 ∧ t.loads.grants = ⟨300, 1600, 0, 0, 0, 0⟩ ∧ t.loads.records.bat.state = .off ∧
    t.loads.forcedOff = 0 := by decide +kernel

/-! ### Loads and claims (04, 4.8) -/

theorem test_blower_claim_takes_heaters :
    let t := after (.inhibitClaimSet .dispatch 0) running
    t.loads.grants = ⟨0, 0, 0, 0, 0, 3500⟩ ∧
    t.loads.reasons = ⟨.inhibited, .blower, .noDemand, .noDemand, .noDemand, .budget⟩ ∧
    t.loads.records.hpc.state = .cooldown ∧ t.loads.forcedOff = 1 := by decide +kernel

theorem test_blower_claim_answers :
    (after (.inhibitClaimSet .dispatch 0) running).port.ports.dispatch.response =
      [0x00, 0x05, 4, 0, 0, 0, 4] := by decide +kernel

theorem test_committed_draw : running.loads.committed = 7150 := by decide

theorem test_actuator_status_starts_loads :
    let s := { slotZero with
      loads := { slotZero.loads with
        records := { slotZero.loads.records with blw := record .starting 5, hpc := record .starting 5 } } }
    let t := after (.actuatorStatus .climate 41 ⟨2, 1, 0, 0, 0, 2⟩ ⟨290, 0, 0, 0, 0, 3700⟩) s
    t.loads.records.blw = record .running 0 ∧ t.loads.records.hpc = record .starting 5 ∧ t.power.measured = 3990 ∧
    t.loads.ackCurrent = true := by decide +kernel

/-! ### The tracker (06, 6.3, 6.6) -/

theorem test_trajectory_points : plan.traj 1400 = -87 ∧ plan.traj 1350 = -75 ∧ plan.traj 1200 = -40 := by
  decide +kernel

theorem test_report_inside_relaxed_window :
    (after (.sensorReport .climate (signed16 (-80)) 0x8000 0x8000 0) (onTrack 1400)).track.tracker = .onTrack := by
  decide +kernel

theorem test_report_outside_relaxed_window :
    let t := (after (.sensorReport .climate (signed16 (-65)) 0x8000 0x8000 0) (onTrack 1200)).track
    t.tracker = .acq1 ∧ t.tracks = false ∧ t.lossCount = 1 := by decide +kernel

theorem test_open_door_holds :
    let t := (after (.sensorReport .climate (signed16 (-82)) 0x8000 0x8000 1) (onTrack 1390)).track
    t.tracker = .held ∧ t.holdDoor = true ∧ t.track = false ∧ t.tracks = true ∧ t.lossCount = 0 := by
  decide +kernel

/-! ### The run (01) -/

theorem test_schedule_check_starts_generation :
    let t := after .scheduleCheck scheduled
    t.run.state = .planning ∧ t.track.margin = 426 ∧ t.plan.capture = some capture := by decide +kernel

theorem test_plan_completion_issues_first_grants :
    let t := after .planCompletion planning
    t.run.state = .conditioning ∧ t.loads.grants = ⟨300, 2500, 0, 0, 0, 3750⟩ ∧ t.loads.sequence = 1 ∧
    t.track.margin = 426 := by decide +kernel

theorem test_plan_completion_pendings :
    (after .planCompletion { planning with router := ⟨RouterBlock.defaultMasks, .all 0⟩ }).router.pendings =
      ⟨0x0001, 0x0010, 0x1001⟩ := by decide +kernel

/-- R122, R126: the tick that brings the check has stopped the sensor timer, so the completion finds it stopped. -/
theorem test_stopped_sensor_timer_declares_loss :
    let s := { scheduled with
      run := { scheduled.run with remaining := 1801, checkDue := false }
      track := { scheduled.track with sensorTimer := some 1 } }
    let t := after .planCompletion (after .scheduleCheck s)
    t.run.state = .conditioning ∧ t.track.sensorLost = true ∧ t.track.openLoop = true ∧ t.track.tracker = .held := by
  decide +kernel

/-- R187: a slot start given before its tick has the tick add the new grants, and one given after it the old ones. -/
theorem test_issue_and_tick_in_either_order :
    let s := { slotZero with run := { slotZero.run with remaining := 1681 } }
    let first := after .timeBaseTick (after .slotStart s)
    let last := after .slotStart (after .timeBaseTick s)
    first.log.acc.energy = ⟨300, 3100, 0, 0, 0, 3500⟩ ∧ last.log.acc.energy = ⟨300, 2500, 0, 0, 0, 3750⟩ ∧
    first.run = last.run ∧ first.loads = last.loads ∧ first.run.remaining = 1680 := by decide +kernel

/-- R187: a run planned at 1800 does not count the tick that brought 1800, wherever its schedule check and its completion
stand beside TIME_BASE_TICK. -/
theorem test_run_counts_from_its_start :
    let s := { scheduled with run := { scheduled.run with remaining := 1801, checkDue := false } }
    let started := after .timeBaseTick (after .scheduleCheck s)
    let planned := after .timeBaseTick (after .planCompletion (after .scheduleCheck s))
    started.run.remaining = 1800 ∧ started.log.acc = ⟨0, 0, .all 0, false⟩ ∧
    (after .timeBaseTick started).log.acc.duration = 1 ∧ planned.run.remaining = 1800 ∧
    planned.log.acc = ⟨0, 0, .all 0, true⟩ ∧ (after .timeBaseTick planned).log.acc.duration = 1 := by decide +kernel

/-- R92, R187: a slot start and the shed of a lower Envelope may both come before the tick's count. -/
theorem test_two_issues_before_one_tick :
    let s := { slotZero with run := { slotZero.run with remaining := 1681 } }
    let t := after .timeBaseTick (after (.envelope .supply 1 4000 0 30) (after .slotStart s))
    t.loads.grants = ⟨300, 3100, 0, 0, 0, 0⟩ ∧ t.log.acc.energy = ⟨300, 3100, 0, 0, 0, 0⟩ ∧
    t.log.acc.duration = 126 ∧ t.run.remaining = 1680 := by decide +kernel

theorem test_next_run_number_wraps : nextRunAfter 65535 = 1 ∧ nextRunAfter 1 = 2 := by decide

theorem test_slot_length_midpoints :
    [0, 45, 46, 90, 91, 180, 181, 241].map nearestSlotLength = [30, 30, 60, 60, 120, 120, 240, 240] := by decide

theorem test_profile_write_clamps :
    let t := after (.profileFieldWrite .dispatch 1 0 0x8000) State.reset
    t.store.banks.bank1.tSet = 100 ∧ t.port.ports.dispatch.response = [0x00, 0x63, 5, 1, 0, 100, 0, 1] := by
  decide +kernel

/-! ### The ports (09, 9.1 to 9.4, 9.8) and the resets (10, 10.8) -/

theorem test_port_addresses :
    portAddress 0 .supply = 0x30 ∧ portAddress 1 .climate = 0x35 ∧ portAddress 2 .dispatch = 0x3A ∧
    portAddress 3 .dispatch = 0x3E := by decide

theorem test_status_query_after_reset :
    (after (.statusQuery .supply) State.reset).port.ports.supply.response =
      [0x00, 0x01, 14, 0, 0, 0, 0, 0, 0, 0, 0, 0, 0, 0, 0, 0x6C, 0x07] := by decide +kernel

theorem test_replan_held_while_planning :
    let t := after (.replan .supply) planning
    t.port.ports.supply.response = [0x01, 0x06, 0] ∧ t.run.held = ⟨true, false, false⟩ := by decide +kernel

/-- R18: a frame that a release has freed is held again by the next generation. -/
theorem test_freed_frame_held_again :
    let frame := fun c : Byte => (⟨.pending ⟨[c, 0], false⟩, [0x01, c, 0], .hold, false⟩ : TargetPort)
    let s := { running with port := { running.port with ports := ⟨frame 0x06, frame 0x01, frame 0x61⟩ } }
    (startGeneration .replan s).run.held = ⟨true, false, true⟩ := by decide +kernel

theorem test_held_read_served_by_completion :
    let s := after (.responseRead .supply 0x30 8 true) (after (.replan .supply) planning)
    let t := after .planCompletion s
    t.run.state = .planning ∧ t.run.origin = some .replan ∧
    t.bus.supply.data = [0x00, 0x06, 5, 2, 0x08, 0x07, 0, 0] := by decide +kernel

/-- R164, R167, R180: a write that ends within the service of a Status Query sets the flag that the query has cleared. -/
theorem test_overflow_after_status_query :
    let s := after (.finishedWrite .climate 0x31 ⟨[0x0A, 0], .inService⟩)
      (after (.finishedWrite .climate 0x31 ⟨[0x01, 0], .stop⟩) State.reset)
    let t := after (.statusQuery .climate) s
    t.port.ports.climate.response.getD 10 0 = 0 ∧ t.port.ports.climate.overflow = true ∧
    t.port.ports.climate.rx = .empty := by decide +kernel

/-- R158: an overflow within the service of an Event Query leaves PORT_OVERFLOW pending. -/
theorem test_overflow_after_event_query :
    let s := after (.finishedWrite .climate 0x31 ⟨[0x0A, 0], .inService⟩)
      (after (.finishedWrite .climate 0x31 ⟨[0x02, 0], .stop⟩) State.reset)
    let t := after (.eventQuery .climate) s
    t.port.ports.climate.response = [0x00, 0x02, 2, 0x00, 0x40] ∧ t.router.pendings.climate = 0x2000 := by
  decide +kernel

/-- R183: a write in progress when a reset falls is lost whole. -/
theorem test_write_lost_at_reset :
    let s := after (.finishedWrite .climate 0x31 ⟨[0x0A], .goesOn⟩) State.reset
    let t := after (.resetRelease false false) (after .pinReset s)
    s.bus.climate.transaction = .writing ⟨[0x0A], false⟩ false ∧ t.bus.climate.transaction = .idle ∧
    (after (.finishedWrite .climate 0x31 ⟨[0], .stop⟩) s).port.ports.climate.rx = .pending ⟨[0x0A, 0], false⟩ ∧
    (after (.finishedWrite .climate 0x31 ⟨[0], .stop⟩) t).port.ports.climate.rx = .pending ⟨[0], false⟩ := by
  decide +kernel

/-- R164: a repeated start to another address ends a write, so the bytes after it are a write of their own. -/
theorem test_foreign_start_ends_write :
    let s := after (.responseRead .climate 0x50 1 true)
      (after (.finishedWrite .climate 0x31 ⟨[0x0A], .goesOn⟩) State.reset)
    s.bus.climate.transaction = .idle ∧ s.port.ports.climate.rx = .pending ⟨[0x0A], false⟩ ∧
    (after (.finishedWrite .climate 0x31 ⟨[0], .stop⟩) s).port.ports.climate.overflow = true := by decide +kernel

/-- R174: a frame that waits is served before the next tick at the latest. -/
theorem test_waiting_frame_served_before_tick :
    let s := after (.finishedWrite .climate 0x31 ⟨[0x0A, 0], .stop⟩) State.reset
    s.port.ports.climate.rx = .pending ⟨[0x0A, 0], false⟩ ∧
    (after .timeBaseTick s).port.ports.climate = ⟨.empty, [0x00, 0x0A, 1, 1], .hold, false⟩ := by decide +kernel

theorem test_interrupted_run_appended :
    let t := after (.resetRelease false true) (after .pinReset running)
    (t.log.entries.map fun e => (e.run, e.cause)) = [(1, .reset)] ∧ t.run.nextRun = 2 ∧
    t.log.causes = ⟨true, true, false⟩ ∧ t.port.straps = 1 := by decide +kernel

theorem test_power_on_release_is_reset :
    after (.resetRelease false false) (after .powerOnReset running) = State.reset := by decide +kernel

/-! ### Witnesses: a state and operands that meet the hypotheses of each statement, clause by clause -/

theorem witness_StepTakesFrontCommand : State.reset.pending = [] := by decide

theorem witness_StatusQueryReportsAndClearsOverflow : State.reset.ready .dispatch = true := by decide

theorem witness_EventRequestsKeepPendingSets :
    State.reset.ready .climate = true ∧ (0x8000#16).getLsbD 15 = true ∧ (0x7FFF#16).getLsbD 15 = false := by decide

theorem witness_PortModeSetStoresMode : State.reset.ready .supply = true ∧ 2 ≤ (2 : Byte).toNat := by decide

theorem witness_InhibitClaimChangesClaimSet :
    running.ready .dispatch = true ∧ 3 ≤ (3 : Byte).toNat ∧ 6 ≤ (6 : Byte).toNat ∧ (5 : Byte).toNat = Load.number .bat ∧
    (running.loads.records.get .bat).inhibited = false ∧ running.loads.grants.get .bat ≠ 0 ∧
    (0 : Byte).toNat = Load.number .blw ∧ State.reset.loads.grants.get .blw = 0 := by decide

theorem witness_SlotQueryReportsEntry :
    running.ready .supply = true ∧
    ((running.plan.plan.map PlanRecord.slots).getD []).length ≤ (15 : Byte).toNat ∧
    ((running.plan.plan.map PlanRecord.slots).getD [])[(14 : Byte).toNat]? = some (entry 14) ∧
    (entry 14).actual = none ∧
    (((running.plan.plan.map PlanRecord.slots).getD [])[(1 : Byte).toNat]?.bind SlotEntry.actual).isSome = true := by
  decide +kernel

/-- The log after a run that a reset has cut short. -/
def logged : State := after (.resetRelease false false) (after .pinReset running)

theorem witness_OutcomeQueryReportsEntry :
    logged.ready .climate = true ∧ logged.log.entries.length ≤ (1 : Byte).toNat ∧
    (logged.log.entries[(0 : Byte).toNat]?).isSome = true := by decide +kernel

theorem witness_FieldAndSettingReadsReportValues :
    State.reset.ready .supply = true ∧ 4 ≤ (4 : Byte).toNat ∧ (3 : Byte).toNat < 4 ∧ 25 ≤ (25 : Byte).toNat ∧
    (3 : Byte).toNat = (3 : Fin 4).val ∧ Field.all[(24 : Byte).toNat]? = some .tAssume ∧
    17 ≤ (17 : Byte).toNat ∧ (16 : Byte).toNat < 17 := by decide

theorem witness_ResetCauseQueryAndClear : State.reset.ready .climate = true := by decide

theorem witness_FailedChecksRefuseFrame :
    State.reset.ready .climate = true ∧ State.reset.run.state ≠ .planning ∧
    (¬∃ n payload, ([] : List Byte) = n :: payload ∧ payload.length = n.toNat) ∧
    (∃ n payload, ([0] : List Byte) = n :: payload ∧ payload.length = n.toNat) ∧
    (∃ n payload, ([1, 7] : List Byte) = n :: payload ∧ payload.length = n.toNat) :=
  ⟨by decide, by decide, fun ⟨_, _, e, _⟩ => List.noConfusion rfl (heq_of_eq e), ⟨0, [], rfl, rfl⟩, ⟨1, [7], rfl, rfl⟩⟩

theorem witness_ForeignRoleRefused :
    State.reset.ready .supply = true ∧ State.reset.ready .climate = true ∧ State.reset.run.state ≠ .planning := by
  decide

theorem witness_EnvelopeArrivalSetsBudget :
    let lost := { running with power := { running.power with state := .lost } }
    2 ≤ (2 : Byte).toNat ∧ (1 : Byte).toNat < 2 ∧
    State.reset.ready .supply = true ∧ State.reset.power.state ≠ .lost ∧ State.reset.loads.grants.sum ≤ 0 ∧
    running.ready .supply = true ∧ running.power.state ≠ .lost ∧ 3600 < running.loads.grants.sum ∧
    lost.ready .supply = true ∧ lost.power.state = .lost := by decide

/-- The run of 05, 5.9 with its budget fallen and not yet shed. -/
def fallenBudget : State := { slotZero with power := { slotZero.power with budget := 3600 } }

theorem witness_ShedLowersGrantsInReverseOrder :
    fallenBudget.grantsFollowStates ∧ fallenBudget.heatersNeedBlower ∧
    fallenBudget.power.budget < fallenBudget.loads.grants.sum :=
  ⟨fun l => by cases l <;> decide, by unfold State.heatersNeedBlower; decide, by decide⟩

theorem witness_FloorSetRemovesGrantsAbove :
    running.ready .supply = true ∧ running.power.floor ≤ 3 ∧
    (∃ l, running.loads.grants.get l ≠ 0 ∧ 1 < running.inForce.level l) ∧
    ∀ l, running.loads.grants.get l = 0 ∨ running.inForce.level l ≤ 2 :=
  ⟨by decide, by decide, ⟨.bat, by decide +kernel⟩, fun l => by cases l <;> decide +kernel⟩

theorem witness_DrawAndGrantQueriesReport :
    State.reset.ready .supply = true ∧ State.reset.ready .climate = true := by decide

/-- The run HELD for the causes given, SENSOR together with open loop. -/
def heldFor (door sensor : Bool) : State := { running with
  track := { running.track with tracker := .held, holdDoor := door, holdSensor := sensor, openLoop := sensor } }

theorem witness_SensorReportStoresValues :
    State.reset.ready .climate = true ∧ State.reset.track.tracker = .idle ∧ 2 ≤ (2 : Byte).toNat ∧
    (1 : Byte).toNat < 2 ∧ (onTrack 1390).ready .climate = true ∧ (onTrack 1390).track.tracker = .onTrack ∧
    (receiveTemp 0x8000).isSome = false ∧ receiveTemp (signed16 (-82)) = some (-82) ∧
    (heldFor true true).ready .climate = true ∧ (heldFor true true).track.tracker = .held ∧
    (heldFor true true).track.openLoop = true ∧ (heldFor false true).track.holdDoor = false ∧
    (heldFor true false).ready .climate = true ∧ (heldFor true false).track.holdSensor = false ∧
    (heldFor true false).plan.plan.isSome = true := by decide +kernel

/-- The run acquiring in ACQ2 with a count of 11. -/
def acquiring : State := { running with track := { running.track with tracker := .acq2, acquisition := 11 } }

theorem witness_ReportJudgedAgainstTrajectory :
    acquiring.ready .climate = true ∧ receiveTemp (signed16 (-151)) = some (-151) ∧ acquiring.plan.plan.isSome = true ∧
    acquiring.track.openLoop = false ∧ acquiring.track.tracker ≠ .idle ∧ acquiring.track.tracker ≠ .held := by decide

/-- The run on track in PLANNING for a Replan, with a profile that aborts at the first loss and a Cancel held. -/
def aborting : State := { onTrack 1200 with
  run := { (onTrack 1200).run with state := .planning, origin := some .replan, held := ⟨false, false, true⟩ }
  plan := { running.plan with
    plan := some { plan with profile := { profile with abortOnLoss := 1, lossLimit := 1 } }, capture := some capture }
  port := { running.port with
    ports := running.port.ports.set .dispatch ⟨.pending ⟨[0x61, 0], false⟩, [0x01, 0x61, 0], .hold, false⟩ } }

theorem witness_ReportOutsideWindowLosesTrack :
    (onTrack 1200).ready .climate = true ∧ receiveTemp (signed16 (-65)) = some (-65) ∧
    (onTrack 1200).track.openLoop = false ∧ (onTrack 1200).track.tracker = .onTrack ∧
    2 * plan.profile.wTrack < (-65 - plan.traj 1200).natAbs ∧ (onTrack 1200).inRun = true ∧
    plan.profile.abortOnLoss ≠ 1 ∧
    aborting.ready .climate = true ∧ aborting.track.tracker = .onTrack ∧ aborting.inRun = true ∧
    (after (.sensorReport .climate (signed16 (-65)) 0x8000 0x8000 0) aborting).port.ports.dispatch.response =
      [0x14, 0x61, 0] := by decide +kernel

theorem witness_ActuatorStatusTakesReport :
    running.ready .climate = true ∧ 4 ≤ (4 : Byte).toNat ∧
    (∀ l : Load, ((PerLoad.all 1 : PerLoad Byte).get l).toNat < 4) ∧
    (∀ l : Load, (PerLoad.all 1 : PerLoad Byte).get l ≠ 3 ∧ (PerLoad.all 1 : PerLoad Byte).get l ≠ 0) ∧
    running.power.overdraw + 1 < 3 :=
  ⟨by decide, by decide, fun l => by cases l <;> decide, fun l => by cases l <;> decide, by decide⟩

/-- The run with two counting reports taken. -/
def overdrawn : State := { running with power := { running.power with overdraw := 2 } }

theorem witness_ReportedFaultRemovesGrants :
    let mixed : PerLoad Byte := ⟨2, 3, 1, 1, 1, 0⟩
    let fewer : PerLoad Byte := ⟨1, 1, 1, 1, 1, 3⟩
    running.ready .climate = true ∧ (∀ l, (mixed.get l).toNat < 4) ∧ (∀ l, (fewer.get l).toNat < 4) ∧
    mixed.get .hpc = 3 ∧ (running.loads.records.get .hpc).state ≠ .faulted ∧
    mixed.get .bat = 0 ∧ (running.loads.records.get .bat).state = .running ∧ running.loads.grants.get .bat ≠ 0 ∧
    fewer.get .bat = 3 ∧ running.power.overdraw + 1 < 3 ∧
    overdrawn.ready .climate = true ∧ 2 ≤ overdrawn.power.overdraw ∧ overdrawn.power.budget * 105 / 100 < 7351 ∧
    (after (.actuatorStatus .climate 42 fewer ⟨7351, 0, 0, 0, 0, 0⟩) overdrawn).loads.grants = ⟨300, 0, 0, 0, 0, 0⟩ ∧
    (after (.actuatorStatus .climate 42 (.all 3) ⟨7351, 0, 0, 0, 0, 0⟩) overdrawn).loads.grants = .all 0 :=
  ⟨by decide, fun l => by cases l <;> decide, fun l => by cases l <;> decide, by decide, by decide, by decide,
    by decide, by decide, by decide, by decide, by decide, by decide, by decide, by decide +kernel,
    by decide +kernel⟩

theorem witness_ThirdOverdrawRemovesLastGrant :
    let codes : PerLoad Byte := ⟨2, 2, 0, 1, 0, 2⟩
    let idle := { State.reset with power := { State.reset.power with overdraw := 2 } }
    overdrawn.ready .climate = true ∧ 2 ≤ overdrawn.power.overdraw ∧ overdrawn.power.budget * 105 / 100 < 7351 ∧
    (∀ l, (codes.get l).toNat < 4) ∧
    (∀ l, ¬((codes.get l = 3 ∧ (overdrawn.loads.records.get l).state ≠ .faulted) ∨
      (codes.get l = 0 ∧ (overdrawn.loads.records.get l).state = .running ∧ overdrawn.loads.grants.get l ≠ 0))) ∧
    overdrawn.loads.grants.get .bat ≠ 0 ∧
    (∀ m, overdrawn.loads.grants.get m ≠ 0 →
      overdrawn.inForce.level m < overdrawn.inForce.level .bat ∨
      (overdrawn.inForce.level m = overdrawn.inForce.level .bat ∧ m.number ≤ Load.number .bat)) ∧
    idle.ready .climate = true ∧ idle.loads.grants = .all 0 ∧ idle.power.budget * 105 / 100 < 7351 :=
  ⟨by decide, by decide, by decide, fun l => by cases l <;> decide, fun l => by cases l <;> decide, by decide,
    fun m => by cases m <;> decide +kernel, by decide, by decide, by decide +kernel⟩

/-- The run with the compressor FAULTED. -/
def faulty : State := { State.reset with
  loads := { State.reset.loads with
    records := { State.reset.loads.records with hpc := ⟨.faulted, 3, .all false, some .noStart⟩ } } }

theorem witness_ClearFaultRestoresLoad :
    faulty.ready .climate = true ∧ 6 ≤ (6 : Byte).toNat ∧ (1 : Byte).toNat = Load.number .hpc ∧
    (faulty.loads.records.get .hpc).state = .faulted ∧ (faulty.loads.records.get .hpc).cause = some .noStart ∧
    (5 : Byte).toNat = Load.number .bat ∧ (faulty.loads.records.get .bat).state ≠ .faulted := by decide

theorem witness_CopEntryAndSensorTimeoutStored :
    State.reset.ready .climate = true ∧ 8 ≤ (8 : Byte).toNat ∧ (7 : Byte).toNat < 8 := by decide

theorem witness_LoadLimitSetCutsGrant :
    running.ready .climate = true ∧ 6 ≤ (6 : Byte).toNat ∧ (5 : Byte).toNat = Load.number .bat ∧
    (4 : Byte).toNat = Load.number .seat ∧ Load.modulating .seat = false ∧ Load.modulating .bat = true ∧
    running.loads.grants.get .bat ≤ 3500 ∧ 3250 < running.loads.grants.get .bat := by decide

theorem witness_RunRequestsHeldInPlanning :
    planning.ready .supply = true ∧ planning.run.state = .planning := by decide

theorem witness_DepartureSetLoadsCounter :
    State.reset.ready .dispatch = true ∧ State.reset.run.held = .all false ∧ State.reset.run.state = .idle ∧
    scheduled.ready .dispatch = true ∧ scheduled.run.state = .scheduled ∧
    running.ready .dispatch = true ∧ running.run.held = .all false ∧ running.run.state = .conditioning ∧
    (5760 : U16).toNat ≤ 48 * running.plan.slotLength ∧ 48 * running.plan.slotLength < (5761 : U16).toNat ∧
    (0 : U16).toNat = 0 ∧ 2 ≤ (2 : Byte).toNat ∧ (1 : Byte).toNat < 2 := by decide

theorem witness_SelectBankActivatesBank :
    State.reset.ready .dispatch = true ∧ State.reset.run.state = .idle ∧ scheduled.ready .dispatch = true ∧
    scheduled.run.state = .scheduled ∧ running.ready .dispatch = true ∧ running.run.state = .conditioning ∧
    running.run.remaining ≤ 48 * running.plan.slotLength ∧ 4 ≤ (4 : Byte).toNat ∧
    (3 : Byte).toNat = (3 : Fin 4).val ∧ running.run.held = .all false := by decide

/-- The run with its departure beyond the horizon. -/
def distant : State := { running with run := { running.run with remaining := 5761 } }

theorem witness_ReplanServedByRunState :
    State.reset.ready .supply = true ∧ State.reset.run.state = .idle ∧ scheduled.ready .climate = true ∧
    scheduled.run.state = .scheduled ∧ running.ready .climate = true ∧ running.run.held = .all false ∧
    running.run.state = .conditioning ∧ running.run.remaining ≤ 48 * running.plan.slotLength ∧
    distant.ready .climate = true ∧ 48 * distant.plan.slotLength < distant.run.remaining := by decide

theorem witness_SuspensionReturnsToScheduled :
    48 * distant.plan.slotLength < distant.run.remaining ∧ distant.slots.openSlot = some 1 ∧
    (distant.plan.plan.bind fun r => r.slots[1]?.bind SlotEntry.actual).isSome = true ∧
    (distant.plan.plan.bind fun r => r.slots[0]?).isSome = true ∧
    { distant.slots with openSlot := none }.openSlot = none := by decide +kernel

theorem witness_CancelStopsDeparture :
    State.reset.ready .dispatch = true ∧ State.reset.run.state = .idle ∧ scheduled.ready .dispatch = true ∧
    scheduled.run.state = .scheduled ∧ running.ready .dispatch = true ∧ running.run.state = .conditioning ∧
    running.run.held = .all false := by decide

theorem witness_RunEndTakesFiveSteps :
    running.slots.openSlot = some 1 ∧ (running.plan.plan.bind fun r => r.slots[1]?.bind SlotEntry.actual).isSome = true ∧
    (running.plan.plan.bind fun r => r.slots[0]?).isSome = true ∧ planning.slots.openSlot = none ∧
    running.log.acc.planCompleted = true ∧ State.reset.log.acc.planCompleted = false ∧
    planning.run.origin = some .start ∧ planning.plan.capture = some capture ∧ running.run.origin ≠ some .start := by
  decide +kernel

theorem witness_ProfileFieldWriteStoresClamped :
    State.reset.ready .dispatch = true ∧ 4 ≤ (4 : Byte).toNat ∧ (3 : Byte).toNat < 4 ∧ 25 ≤ (25 : Byte).toNat ∧
    (0 : Byte).toNat = State.reset.store.active.val ∧ Field.all[(13 : Byte).toNat]? = some .wRes ∧
    State.reset.live = false ∧ Field.all[(24 : Byte).toNat]? = some .tAssume := by decide

theorem witness_SlotLengthSetStoresNearest :
    State.reset.ready .dispatch = true ∧ State.reset.run.held = .all false ∧ State.reset.run.state ≠ .scheduled ∧
    scheduled.ready .dispatch = true ∧ scheduled.run.held = .all false ∧ scheduled.run.state = .scheduled := by decide

theorem witness_LeadFollowsElevenSteps :
    (0 < 120) ∧ capture.leadInputs.profile.tSet - 210 ≤ 0 ∧
    0 < capture.leadInputs.profile.tSet - capture.leadInputs.tCab ∧
    lossPower profile 15 (-220) < leadHeat capture.leadInputs ∧
    leadHeat { capture.leadInputs with budget := 0 } ≤ lossPower profile 15 (-220) := by decide

theorem witness_TrajectoryRampsToTarget :
    plan.rPlan = 1800 ∧ plan.profile.settle = 120 ∧ { capture with rPlan := 120 }.build.rPlan ≤ 120 ∧
    { capture with rPlan := 120 }.build.rPlan < 121 := by decide

theorem witness_SlotTableCoversRemainingTime :
    0 < capture.slotLength ∧ 0 < capture.rPlan ∧ 1 ≤ 1800 ∧ 1800 ≤ capture.rPlan ∧
    (capture.build.slots[0]?).isSome = true := by decide +kernel

theorem witness_DemandsAreGrantable :
    800 ≤ first.loads.hpcLimit ∧ first.loads.hpcLimit % 100 = 0 ∧ 250 ≤ first.loads.airLimit ∧
    first.loads.airLimit % 250 = 0 ∧ 250 ≤ first.loads.batLimit ∧ first.loads.batLimit % 250 = 0 := by decide

/-- The state with a frame PENDING at CLIMATE: a Reset Cause Query. -/
def waiting : State := { State.reset with
  port := { State.reset.port with
    ports := State.reset.port.ports.set .climate ⟨.pending ⟨[0x0A, 0], false⟩, [0x01, 0x0A, 0], .hold, false⟩ } }

/-- The state with a transaction in progress at CLIMATE. -/
def reading (r : Transaction) : State := { waiting with bus := waiting.bus.set .climate ⟨r, []⟩ }

theorem witness_FinishedWriteReachesPort :
    (State.reset.bus.get .climate).transaction = .idle ∧ (0x31#7).toNat = 0x30 + 4 * State.reset.port.straps.toNat + 1 ∧
    State.reset.resetting = none ∧ (State.reset.port.ports.get .climate).rx = .empty ∧
    (waiting.bus.get .climate).transaction = .idle ∧ (waiting.port.ports.get .climate).rx ≠ .empty ∧
    ((reading (.writing ⟨[0x0A], false⟩ true)).bus.get .climate).transaction = .writing ⟨[0x0A], false⟩ true ∧
    ((reading (.stretched 3 true)).bus.get .climate).transaction = .stretched 3 true ∧
    ((reading (.returning [0x01, 0x0A, 0] 1)).bus.get .climate).transaction = .returning [0x01, 0x0A, 0] 1 ∧
    (0x30#7).toNat ≠ 0x31 := by decide

theorem witness_ResponseReadFollowsMode :
    (State.reset.bus.get .climate).transaction = .idle ∧ (0x31#7).toNat = 0x30 + 4 * State.reset.port.straps.toNat + 1 ∧
    State.reset.resetting = none ∧ (State.reset.port.ports.get .climate).rx = .empty ∧
    (waiting.port.ports.get .climate).mode = .hold ∧ (waiting.port.ports.get .climate).rx ≠ .empty ∧
    (waiting.bus.get .climate).transaction = .idle ∧
    ((reading (.writing ⟨[0x0A], false⟩ false)).bus.get .climate).transaction = .writing ⟨[0x0A], false⟩ false ∧
    ((reading .released).bus.get .climate).transaction = .released ∧ (0x50#7).toNat ≠ 0x31 := by decide

/-- A read that returns the BUSY frame, with a response waiting for its stop. -/
def deferred : State := { reading (.returning [0x01, 0x0A, 0] 1) with
  port := { waiting.port with
    ports := waiting.port.ports.set .climate
      ⟨.inService ⟨[0x0A, 0], false⟩ (some [0x00, 0x0A, 1, 1]), [0x01, 0x0A, 0], .prepared, false⟩ } }

/-- R173: a repeated start to another address ends a read, and the response that waits is installed. -/
theorem test_foreign_start_installs :
    let s := after (.responseRead .climate 0x50 1 true) deferred
    s.bus.climate.transaction = .idle ∧ s.port.ports.climate = ⟨.empty, [0x00, 0x0A, 1, 1], .prepared, false⟩ := by
  decide

theorem witness_ReadsEndAtLimitAndStop :
    ((reading (.stretched 3 true)).bus.get .climate).transaction = .stretched 3 true ∧
    ((reading (.stretched 3 true)).port.ports.get .climate).rx = .pending ⟨[0x0A, 0], false⟩ ∧
    (deferred.bus.get .climate).transaction = .returning [0x01, 0x0A, 0] 1 ∧
    (deferred.port.ports.get .climate).rx = .inService ⟨[0x0A, 0], false⟩ (some [0x00, 0x0A, 1, 1]) ∧
    (waiting.port.ports.get .climate).rx ≠ .inService ⟨[0x0A, 0], false⟩ (some []) ∧
    ((reading .released).bus.get .climate).transaction = .released ∧
    (State.reset.bus.get .climate).transaction = .idle ∧
    ((reading (.writing ⟨[], false⟩ false)).bus.get .climate).transaction = .writing ⟨[], false⟩ false := by decide

/-- Two frames PENDING: a Reset Cause Query at CLIMATE, and one at SUPPLY. With the rotation pointer at DISPATCH, SUPPLY
comes first. -/
def twoWaiting : State := { waiting with
  port := { waiting.port with
    ports := waiting.port.ports.set .supply ⟨.pending ⟨[0x0A, 0], false⟩, [0x01, 0x0A, 0], .hold, false⟩ } }

/-- The same state with the frame of SUPPLY held. -/
def oneHeld : State := { twoWaiting with run := { twoWaiting.run with held := ⟨true, false, false⟩ } }

theorem witness_PendingFrameServedByItsCommand :
    requestFrame (.resetCauseQuery .climate) = some (.climate, ⟨[0x0A, 0], false⟩) ∧
    waiting.resetting = none ∧ (waiting.port.ports.get .climate).rx = .pending ⟨[0x0A, 0], false⟩ ∧
    waiting.run.held = .all false ∧ (waiting.bus.get .climate).transaction = .idle ∧
    (∀ q, q ≠ Port.climate → waiting.candidate q = false) ∧
    ((reading (.stretched 4 true)).bus.get .climate).transaction = .stretched 4 true ∧
    ((reading (.returning [0x01, 0x0A, 0] 1)).bus.get .climate).transaction = .returning [0x01, 0x0A, 0] 1 ∧
    ((reading (.writing ⟨[0x02], false⟩ true)).bus.get .climate).transaction = .writing ⟨[0x02], false⟩ true ∧
    ((reading (.writing ⟨[0x02], false⟩ false)).bus.get .climate).transaction = .writing ⟨[0x02], false⟩ false ∧
    twoWaiting.candidate .supply = true ∧ twoWaiting.candidate .dispatch = false ∧
    (Port.supply.index + 2 - twoWaiting.port.rotation.index) % 3 <
      (Port.climate.index + 2 - twoWaiting.port.rotation.index) % 3 ∧
    (servePort .supply twoWaiting).candidate .climate = true ∧
    (⟨[0x02, 0], false⟩ : Frame) ≠ ⟨[0x0A, 0], false⟩ ∧
    oneHeld.run.held.get .supply = true ∧ oneHeld.candidate .climate = true :=
  ⟨rfl, by decide, by decide, by decide, by decide, fun q h => by cases q <;> first | decide | exact absurd rfl h,
    by decide, by decide, by decide, by decide, by decide, by decide, by decide, by decide +kernel, by decide,
    by decide, by decide⟩

/-- The state before a tick at 1681, with the hold timer at 1 and the blower's start 14 s old. -/
def beforeEvents : State := { slotZero with
  run := { slotZero.run with remaining := 1681 }
  power := { slotZero.power with holdTimer := some 1 }
  loads := { slotZero.loads with records := { slotZero.loads.records with blw := record .starting 14 } } }

theorem witness_TimeBaseTickCounts :
    running.settled = true ∧ running.quiet = true ∧ running.resetting = none ∧
    (beforeTick running).resetting = none ∧ waiting.quiet = false ∧ (beforeTick waiting).resetting = none ∧
    running.log.countDue = .none ∧ (after .holdTimerExpiry beforeEvents).log.countDue = .due ∧
    (after .holdTimerExpiry beforeEvents).resetting = none ∧
    (after .scheduleCheck { scheduled with
      run := { scheduled.run with remaining := 1801, checkDue := false } }).log.countDue = .outside ∧
    (after .pinReset running).resetting ≠ none := by decide +kernel

/-- The last second of the run. -/
def lastSecond : State := { running with run := { running.run with remaining := 1 } }

/-- The last joules of the windscreen energy, with the heater running. -/
def lastJoules : State := { running with
  slots := { running.slots with screenEnergy := 1200 }
  loads := { running.loads with
    records := { running.loads.records with scr := record .running 9 }, grants := { running.loads.grants with scr := 1200 } } }

theorem witness_TickEventsFallWithTheirTick :
    let begun := countTime (beforeTick beforeEvents)
    let drained := countTime (beforeTick lastJoules)
    lastSecond.resetting = none ∧ State.expired lastSecond = false ∧ (beforeTick lastSecond).resetting = none ∧
    State.expired (countTime (beforeTick lastSecond)) = true ∧
    beforeEvents.resetting = none ∧ beforeEvents.log.countDue = .none ∧ slotStartDue beforeEvents = false ∧
    holdExpiryDue beforeEvents = false ∧ startTimeoutDue beforeEvents = false ∧
    slotStartDue begun = true ∧ holdExpiryDue begun = true ∧ startTimeoutDue begun = true ∧
    slotStartDue (countTime (beforeTick running)) = false ∧ slotStartDue (countGrants (beforeTick running)) = false ∧
    screenSpentDue lastJoules = false ∧ screenSpentDue drained = false ∧ screenSpentDue (countGrants drained) = true ∧
    drained.log.countDue = .due := by decide +kernel

/-- The departure has come. -/
def departed : State := { running with run := { running.run with remaining := 0 } }

theorem witness_DepartureExpiryEndsOrReloads :
    let repeating := { departed with run := { departed.run with mode := .repeating } }
    departed.resetting = none ∧ departed.run.counting = true ∧ departed.run.remaining = 0 ∧
    departed.run.mode = .oneShot ∧
    (after .departureExpiry lastSecond).log.entries.map OutcomeEntry.duration = [126] ∧ repeating.resetting = none ∧ repeating.run.counting = true ∧
    repeating.run.remaining = 0 ∧ repeating.run.mode = .repeating ∧
    (after .departureExpiry repeating).run.remaining = 43200 := by decide +kernel

theorem witness_ScheduleCheckComparesLead :
    scheduled.resetting = none ∧ scheduled.run.state = .scheduled ∧ scheduled.run.checkDue = true ∧
    scheduled.loads.grants = .all 0 := by decide

theorem witness_ForecastGivesClassAndMargin :
    (200 - profile.tSet).natAbs ≤ profile.wTrack ∧ profile.wTrack < (199 - profile.tSet).natAbs ∧
    (0 : Int) ≤ 1374 - 120 - 1254 ∧ (1373 : Int) - 120 - 1254 < 0 ∧ 1254 ≤ 1254 ∧ 1253 < 1254 ∧
    -400 + 100 * (2 : Int) ≤ -200 ∧ (-200 : Int) < -300 + 100 * 2 := by decide

/-- PLANNING of origin REPLAN for a profile with a reserve of 2000 W, with a Cancel held. -/
def replanning : State := { running with
  run := { running.run with state := .planning, origin := some .replan, held := ⟨false, false, true⟩ }
  plan := { running.plan with
    capture := some { capture with profile := { profile with wRes := 2000 }, rPlan := 1675 } }
  port := { running.port with
    ports := running.port.ports.set .dispatch ⟨.pending ⟨[0x61, 0], false⟩, [0x01, 0x61, 0], .hold, false⟩ } }

theorem witness_PlanCompletionTakesEightSteps :
    let c := { capture with profile := { profile with wRes := 2000 }, rPlan := 1675 }
    planning.resetting = none ∧ planning.run.state = .planning ∧ planning.plan.capture = some capture ∧
    planning.settled = true ∧
    capture.build.currentSlot planning.run.remaining = some 0 ∧ capture.build.slots[0]? = some (entry 0) ∧
    planning.loads.grants.sum = 0 ∧
    replanning.resetting = none ∧ replanning.run.state = .planning ∧ replanning.plan.capture = some c ∧
    replanning.settled = true ∧ c.build.currentSlot replanning.run.remaining = some 0 ∧
    (c.build.slots[0]?).isSome = true ∧ replanning.power.budgetFor c.profile < replanning.loads.grants.sum ∧
    (after .planCompletion replanning).log.entries.map OutcomeEntry.cause = [.cancelled] := by decide +kernel

/-- The tick that brings 1560, the start of slot 2. -/
def atSlotTwo : State := { running with run := { running.run with remaining := 1560 } }

theorem witness_SlotStartAllocatesSlot :
    atSlotTwo.resetting = none ∧ atSlotTwo.run.state = .conditioning ∧ atSlotTwo.run.remaining ≠ 0 ∧
    (atSlotTwo.plan.plan.bind fun r => r.slots[2]?) = some (entry 2) ∧ (entry 2).start = atSlotTwo.run.remaining ∧
    atSlotTwo.slots.openSlot ≠ some 2 ∧ (entry 0).start ≠ 1560 ∧ (entry 1).start ≠ 1560 ∧
    (resultFlags { first with entry := entry 2, tCab := some (-400), remaining := 1560 }).clamped = true := by
  decide +kernel

/-- A state for each of the load timers, at its boundary. -/
def timers (blw hpc : LoadRecord) (remaining energy : Nat) : State := { running with
  run := { running.run with remaining := remaining }
  slots := { running.slots with screenEnergy := energy }
  loads := { running.loads with records := { running.loads.records with blw := blw, hpc := hpc } } }

theorem witness_PhaseAndLoadTimersTakeEffect :
    let s := timers (record .starting 15) (record .cooldown 180) 120 0
    s.resetting = none ∧ s.run.state = .conditioning ∧ s.run.remaining = profile.settle ∧ s.run.remaining ≠ 0 ∧
    s.loads.records.hpc.state = .cooldown ∧ 180 ≤ s.loads.records.hpc.age ∧ s.slots.screenEnergy = 0 ∧
    (s.loads.records.get .blw).state = .starting ∧ 15 ≤ (s.loads.records.get .blw).age ∧
    (timers (record .running 9) (record .running 120) 500 0).loads.records.hpc.age = 120 := by decide

/-- Both timers have come to 0. -/
def silent : State := { running with
  power := { running.power with holdTimer := some 0 }
  track := { running.track with sensorTimer := some 0 } }

theorem witness_ControllerTimersExpire :
    silent.resetting = none ∧ silent.power.holdTimer = some 0 ∧ silent.power.state = .live ∧
    silent.inForce.fallbackW - silent.inForce.wRes < silent.loads.grants.sum ∧
    { silent.power with state := .lost }.state ≠ .live ∧ silent.track.sensorTimer = some 0 ∧
    silent.run.state = .conditioning ∧ State.reset.loads.grants.sum ≤ 1900 ∧ State.reset.run.state = .idle := by
  decide +kernel

theorem witness_ResetFallSetsValues :
    running.resetting = none ∧ running.ready .dispatch = true ∧
    (after .powerOnReset running).resetting = some ⟨true, false, false⟩ ∧
    (after (.softReset .dispatch) running).resetting = some ⟨false, false, true⟩ := by decide +kernel

theorem witness_ResetReleaseEndsReset :
    State.reset.resetting = none ∧ (after .pinReset running).resetting = some ⟨false, true, false⟩ ∧
    (after .pinReset running).log.interrupted.isSome = true ∧
    (after .powerOnReset running).resetting = some ⟨true, false, false⟩ ∧
    (after .powerOnReset running).log.interrupted = none := by decide +kernel

/-- The run with an Envelope waiting that sheds. -/
def shedding : State := { running with pending := [.envelope .supply 1 4000 0 30] }

theorem witness_EveryStepKeepsGrants :
    step shedding = exec (.envelope .supply 1 4000 0 30) { shedding with pending := [] } ∧
    shedding.withinBudget ∧ shedding.heatersNeedBlower ∧ shedding.grantsFollowStates ∧ shedding.grantsLawful ∧
    shedding.runTable :=
  ⟨rfl, by unfold State.withinBudget; decide, by unfold State.heatersNeedBlower; decide,
    fun l => by cases l <;> decide,
    ⟨fun l => by cases l <;> simp only [lawfulGrant] <;> decide, by decide, by decide, by decide⟩,
    by unfold State.runTable; decide⟩

theorem witness_EveryStepKeepsTables :
    shedding.envelopeTable ∧ shedding.trackerTable ∧ shedding.banksInRange ∧ shedding.pendingMasked :=
  ⟨⟨rfl, rfl, rfl, rfl⟩, by unfold State.trackerTable; decide, by unfold State.banksInRange; decide +kernel,
    fun p => by cases p <;> decide⟩

/-- The log after one run. -/
def afterOneRun : State := { State.reset with
  run := { State.reset.run with nextRun := 2 }
  log := { State.reset.log with entries :=
    [⟨1, .departed, 0, some 200, 210, .ready, true, false, false, 0, 0, 1800, .all 0⟩] }
  pending := [.timeBaseTick] }

theorem witness_EveryStepKeepsLog :
    step afterOneRun = exec .timeBaseTick { afterOneRun with pending := [] } ∧ afterOneRun.logInOrder :=
  ⟨rfl, by decide, by decide, by decide, ⟨rfl, by decide, by decide, trivial⟩, nofun, by decide⟩

end Sys2Proof.Tests
end

/-! PROOFS. A run end (R19): what it leaves in each block, and O34. -/

namespace Sys2Proof.Machine

/-! ### Kinds recorded one after another (R153) -/

theorem foldl_or_bit (ks : List EventKind) (w : U16) :
    ks.foldl (fun a k => a ||| k.bit) w = w ||| EventKind.setOf ks := by
  unfold EventKind.setOf
  induction ks generalizing w with
  | nil => simp
  | cons k ks ih =>
    rw [List.foldl_cons, List.foldl_cons, ih, ih (0 ||| k.bit)]
    simp [BitVec.or_assoc]

theorem EventKind.setOf_append (ks ls : List EventKind) :
    EventKind.setOf (ks ++ ls) = EventKind.setOf ks ||| EventKind.setOf ls := by
  rw [EventKind.setOf, List.foldl_append, foldl_or_bit]
  rfl

@[simp] theorem recorded_nil (r : RouterBlock) : recorded [] r = r := by
  have pendings : (PerPort.ofFn fun p => r.pendings.get p ||| (r.masks.get p &&& EventKind.setOf [])) = r.pendings := by
    ext p : 1
    simp [EventKind.setOf]
  simp only [recorded, pendings]

/-- Kinds recorded after others are recorded with them. -/
@[simp] theorem recorded_recorded (ks ls : List EventKind) (r : RouterBlock) :
    recorded ls (recorded ks r) = recorded (ks ++ ls) r := by
  simp [recorded, EventKind.setOf_append, BitVec.or_assoc, BitVec.and_or_distrib_left]

@[simp] theorem raise_router (k : EventKind) (s : State) : (raise k s).router = recorded [k] s.router := by
  simp [raise, recorded, EventKind.setOf]

@[simp] theorem issueFrom_router (r : LoadRecord) (h : Handed) (s : State) :
    (issueFrom r h s).router = recorded [.grantChanged] s.router := by
  simp [issueFrom]

@[simp] theorem issueZero_router (s : State) : (issueZero s).router = recorded [.grantChanged] s.router :=
  issueFrom_router _ _ s

/-! ### The zero grant set (R91) -/

/-- The load block after the issue of a zero grant set. -/
def LoadBlock.zeroed (b : LoadBlock) : LoadBlock :=
  b.issued b.records.hpc (.ofFn fun l => some (0, idleReason (b.records.get l)))

theorem issueZero_loads (s : State) : (issueZero s).loads = s.loads.zeroed := rfl

theorem issuedSet_zero (b : LoadBlock) (reason : Load → Reason) (l : Load) :
    (issuedSet b (.ofFn fun l => some (0, reason l))).get l = (0, reason l) := by
  cases l <;> simp [issuedSet, issueOne, coupleBlower, PerLoad.get, PerLoad.ofFn]

theorem issueZero_reasons (s : State) (l : Load) :
    (issueZero s).loads.reasons.get l = idleReason (s.loads.records.get l) := by
  rw [issueZero, issue, issueFrom_reasons, issuedSet_zero]

theorem issueZero_sequence (s : State) : (issueZero s).loads.sequence = s.loads.sequence + 1 := rfl

/-! ### The close of the open slot (R44, R49) -/

/-- A plan record whose entry `n` is closed with a cabin temperature. -/
def PlanRecord.closeAt (r : PlanRecord) (n : Nat) (t : Option Int) : PlanRecord :=
  { r with slots := r.slots.modify n (·.close t) }

/-- The cabin temperature with which an open slot is closed: T_cab, if it was reported within the slot. -/
def State.slotCabin (s : State) : Option Int := if s.slots.reportSeen then s.track.tCab else none

theorem closeSlot_of_none {s : State} (h : s.slots.openSlot = none) : closeSlot s = s := by
  simp [closeSlot, h]

theorem closeSlot_of_some {s : State} {n : Nat} (h : s.slots.openSlot = some n) :
    closeSlot s = raise .slotDone { s with
      plan := { s.plan with plan := s.plan.plan.map (·.closeAt n s.slotCabin) }
      slots := { s.slots with openSlot := none } } := by
  simp only [closeSlot, h]
  rfl

@[simp] theorem closeSlot_slots (s : State) : (closeSlot s).slots = { s.slots with openSlot := none } := by
  cases h : s.slots.openSlot with
  | none => rw [closeSlot_of_none h, ← h]
  | some n => rw [closeSlot_of_some h, raise_slots]

@[simp] theorem closeSlot_router (s : State) :
    (closeSlot s).router = recorded (if s.slots.openSlot.isSome then [.slotDone] else []) s.router := by
  cases h : s.slots.openSlot with
  | none => simp [closeSlot_of_none h]
  | some n => simp [closeSlot_of_some h]

@[simp] theorem closeSlot_capture (s : State) : (closeSlot s).plan.capture = s.plan.capture := by
  cases h : s.slots.openSlot with
  | none => rw [closeSlot_of_none h]
  | some n => rw [closeSlot_of_some h, raise_plan]

@[simp] theorem closeSlot_slotLength (s : State) : (closeSlot s).plan.slotLength = s.plan.slotLength := by
  cases h : s.slots.openSlot with
  | none => rw [closeSlot_of_none h]
  | some n => rw [closeSlot_of_some h, raise_plan]

theorem closeSlot_record_kept {s : State} (h : s.slots.openSlot = none ∨ s.plan.plan = none) :
    (closeSlot s).plan.plan = s.plan.plan := by
  cases hn : s.slots.openSlot with
  | none => rw [closeSlot_of_none hn]
  | some n =>
    have empty : s.plan.plan = none := h.resolve_left (by simp [hn])
    simp [closeSlot_of_some hn, empty]

theorem closeSlot_record_closed {s : State} {n : Nat} {r : PlanRecord} (hn : s.slots.openSlot = some n)
    (hr : s.plan.plan = some r) : (closeSlot s).plan.plan = some (r.closeAt n s.slotCabin) := by
  simp [closeSlot_of_some hn, hr]

theorem closeAt_slots_self {r : PlanRecord} {n : Nat} {e : SlotEntry} (t : Option Int) (h : r.slots[n]? = some e) :
    (r.closeAt n t).slots[n]? = some (e.close t) := by
  simp [PlanRecord.closeAt, h]

theorem closeAt_slots_other {r : PlanRecord} {n m : Nat} (t : Option Int) (h : m ≠ n ∨ r.slots[n]? = none) :
    (r.closeAt n t).slots[m]? = r.slots[m]? := by
  by_cases same : m = n
  · subst same
    have absent : r.slots[m]? = none := h.resolve_left (by simp)
    simp [PlanRecord.closeAt, absent]
  · simp [PlanRecord.closeAt, Ne.symm same]

/-! ### The outcome entry (R185, R188) -/

theorem entryProfile_of_start {s : State} {c : Capture} (ho : s.run.origin = some .start)
    (hc : s.plan.capture = some c) : s.entryProfile = (c.bank, c.profile.tSet) := by
  simp [State.entryProfile, ho, hc]

theorem entryProfile_of_plan {s : State} {r : PlanRecord} (ho : s.run.origin = some .start → s.plan.capture = none)
    (hr : s.plan.plan = some r) : s.entryProfile = (r.bank, r.profile.tSet) := by
  unfold State.entryProfile
  split <;> simp_all

/-- The close of the open slot keeps the bank and the profile of the plan, and so the bank and T_set of the entry. -/
theorem closeSlot_entryProfile (s : State) : (closeSlot s).entryProfile = s.entryProfile := by
  cases hn : s.slots.openSlot with
  | none => rw [closeSlot_of_none hn]
  | some n =>
    cases hr : s.plan.plan with
    | none => simp [State.entryProfile, closeSlot_record_kept (.inr hr), hr, State.activeProfile]
    | some r =>
      by_cases starting : s.run.origin = some .start → s.plan.capture = none
      · rw [entryProfile_of_plan starting hr,
          entryProfile_of_plan (by simpa using starting) (closeSlot_record_closed hn hr)]
        rfl
      · obtain ⟨ho, captured⟩ := Classical.not_imp.mp starting
        obtain ⟨c, hc⟩ := Option.ne_none_iff_exists'.mp captured
        rw [entryProfile_of_start ho hc, entryProfile_of_start (by simpa using ho) (by simpa using hc)]

theorem closeSlot_takeEntry (cause : EndCause) (s : State) : (closeSlot s).takeEntry cause = s.takeEntry cause := by
  simp [State.takeEntry, closeSlot_entryProfile]

/-! ### The run end (R19) -/

/-- What a run end leaves in each block. The grants are 0 when the budget is computed, so that it sheds nothing. -/
theorem endRun_eq (cause : EndCause) (s : State) :
    endRun cause s = { s with
      run := { s.run with nextRun := nextRunAfter s.run.nextRun, origin := none, held := .all false }
      plan := { (closeSlot s).plan with capture := none }
      slots := { s.slots with openSlot := none }
      loads := s.loads.zeroed
      power := { s.power with budget := s.power.budgetFor s.activeProfile }
      track := (trackerIdle s).track
      router := recorded ((if s.slots.openSlot.isSome then [.slotDone] else []) ++ [.grantChanged, .runEnded]) s.router
      log := { s.log with entries := (s.takeEntry cause :: s.log.entries).take 8, acc := .zero } } := by
  have grants : ∀ u : State, (issueZero u).loads.grants.sum = 0 := fun u => by rw [issueZero_grants]; rfl
  unfold endRun
  dsimp only
  rw [computeBudget_keeps _ _ (by simp [releaseHeld, grants])]
  simp [issueZero_loads, closeSlot_takeEntry, releaseHeld, trackerIdle, appendEntry, clearAccumulators, State.activeProfile]

end Sys2Proof.Machine

section
open Sys2Proof Sys2Proof.Machine

/-- Settles O34: `endRun_eq` gives each block; the entry and the plan record are read off by their own lemmas. -/
theorem runEndTakesFiveSteps : Obligations.RunEndTakesFiveSteps := by
  intro cause s
  dsimp only
  rw [endRun_eq]
  refine ⟨⟨s.takeEntry cause, rfl, rfl, rfl, rfl, rfl, rfl, rfl, rfl, fun l => PerLoad.get_ofFn _ l, ?_, ?_, ?_, ?_⟩,
    rfl, rfl, rfl, rfl, issueZero_grants s, issueZero_sequence s, issueZero_reasons s, rfl, rfl, rfl, rfl,
    closeSlot_slotLength s, closeSlot_record_kept, fun n hn r hr => ?_, rfl, rfl⟩
  · intro completed
    simp [State.takeEntry, completed]
  · intro incomplete
    simp [State.takeEntry, incomplete]
  · intro c ho hc
    simp [State.takeEntry, entryProfile_of_start ho hc]
  · intro r ho hr
    simp [State.takeEntry, entryProfile_of_plan (absurd · ho) hr]
  · exact ⟨r.closeAt n s.slotCabin, closeSlot_record_closed hn hr, rfl,
      fun e he => closeAt_slots_self _ he, fun m hm => closeAt_slots_other _ hm⟩

end

/-! PROOFS. The lead (R33 to R36): its arithmetic, its heating time, and O37. -/

namespace Sys2Proof.Machine

/-! ### The roundings and the clamp -/

/-- The model's ceiling is the library's. -/
theorem ceilDiv_eq_library (a b : Nat) : ceilDiv a b = a ⌈/⌉ b := rfl

theorem ceilDiv_le_iff {a b c : Nat} (hb : 0 < b) : ceilDiv a b ≤ c ↔ a ≤ c * b := by
  rw [ceilDiv_eq_library, ceilDiv_le_iff_le_mul hb, mul_comm]

theorem le_ceilDiv_mul {a b : Nat} (hb : 0 < b) : a ≤ ceilDiv a b * b :=
  (ceilDiv_le_iff hb).mp le_rfl

theorem clampNat_eq_max_min {lo hi : Nat} (h : lo ≤ hi) (x : Nat) : clampNat lo hi x = max lo (min hi x) := by
  unfold clampNat
  split
  · omega
  · split <;> omega

/-! ### The heating power (R33, R34) -/

theorem leadHpc_eq (i : LeadInputs) (heat : Nat) :
    leadHpc i heat = if min heat i.hpcLimit / 100 * 100 < 800 ∨ i.hpcAvailable = false then 0
      else min heat i.hpcLimit / 100 * 100 := by
  simp [leadHpc, roundDown]

theorem leadAir_eq (i : LeadInputs) (heat hp : Nat) :
    leadAir i heat hp = if min (heat - hp) i.airLimit / 250 * 250 < 250 ∨ i.airAvailable = false then 0
      else min (heat - hp) i.airLimit / 250 * 250 := by
  simp [leadAir, roundDown]

/-! ### The loss (R35) -/

theorem lossPower_eq (p : Profile) (tIn tOut : Int) :
    lossPower p tIn tOut = if tIn ≤ tOut then 0 else p.ua * (tIn - tOut).toNat / 10 := by
  split
  next cooler => simp [lossPower, Int.toNat_of_nonpos (sub_nonpos.mpr cooler)]
  next => rfl

/-- The loss of the lead arithmetic, at the mean of the cabin temperature and T_set. -/
def leadLoss (i : LeadInputs) : Nat :=
  lossPower i.profile (i.tCab + truncDiv (i.profile.tSet - i.tCab) 2) i.tOut

/-! ### The heating time (R35, R36) -/

theorem heatingTime_of_warm {i : LeadInputs} (warm : i.profile.tSet - i.tCab ≤ 0) : heatingTime i = some 0 :=
  if_pos warm

theorem heatingTime_of_cold {i : LeadInputs} (cold : 0 < i.profile.tSet - i.tCab) :
    heatingTime i = if leadHeat i ≤ leadLoss i then none
      else some (ceilDiv (i.profile.cCab * (i.profile.tSet - i.tCab).toNat * 100) (leadHeat i - leadLoss i)) :=
  if_neg (not_le.mpr cold)

/-! ### The lead in whole slots (R35, R36) -/

theorem leadOf_some (p : Profile) (slotLength t : Nat) :
    leadOf p slotLength (some t) = max slotLength (min (48 * slotLength)
      (((t * (100 + p.margin) + 99) / 100 + p.settle + slotLength - 1) / slotLength * slotLength)) :=
  clampNat_eq_max_min (Nat.le_mul_of_pos_left slotLength (by decide)) _

end Sys2Proof.Machine

section
open Sys2Proof Sys2Proof.Machine

/-- Settles O37: the terms of the statement are `leadHeat` and `leadLoss`, and the heating time is the ceiling of
`heatingTime_of_cold`, the least time whose heat covers the rise. -/
theorem leadFollowsElevenSteps : Obligations.LeadFollowsElevenSteps := by
  intro i slotLength _ p rise share blower heat hp0 hp air0 air power mean loss whole
  have powerOf : leadHeat i = power := by
    unfold leadHeat
    simp only [leadHpc_eq, leadAir_eq]
    rfl
  have lossOf : leadLoss i = loss := lossPower_eq p mean i.tOut
  refine ⟨heatingTime_of_warm, fun cold weak => ?_, fun cold strong => ?_, rfl, leadOf_some p slotLength⟩
  · rw [heatingTime_of_cold cold, powerOf, lossOf, if_pos weak]
  · have net : 0 < power - loss := Nat.sub_pos_of_lt strong
    refine ⟨ceilDiv (p.cCab * rise.toNat * 100) (power - loss), ?_, le_ceilDiv_mul net,
      fun u => (ceilDiv_le_iff net).mpr⟩
    rw [heatingTime_of_cold cold, powerOf, lossOf, if_neg (not_le.mpr strong)]

end

/-! PROOFS. The allocation (R64 to R68): the order of the loads, the walk over it, and O41. -/

namespace Sys2Proof.Machine

/-! ### The allocation order (R64) -/

/-- `m` is granted before `l`: a lower level, or the same level and a lower load number. -/
abbrev Profile.precedes (p : Profile) (m l : Load) : Prop :=
  p.level m < p.level l ∨ (p.level m = p.level l ∧ m.number < l.number)

theorem Load.number_injective : Function.Injective Load.number := by
  intro a b
  cases a <;> cases b <;> decide

theorem Profile.before_iff (p : Profile) (a b : Load) :
    p.before a b ↔ p.level a < p.level b ∨ (p.level a = p.level b ∧ a.number ≤ b.number) := by
  simp [Profile.before]

theorem Profile.precedes_iff_before_ne (p : Profile) (m l : Load) : p.precedes m l ↔ p.before m l ∧ m ≠ l := by
  rw [Profile.before_iff]
  by_cases same : m = l
  · simp [same]
  · have numbers := Load.number_injective.ne same
    simp only [same, ne_eq, not_false_eq_true, and_true]
    omega

/-- The model's placing of a load is the library's ordered insertion. -/
theorem Profile.place_eq_orderedInsert (p : Profile) (l : Load) (ls : List Load) :
    p.place l ls = ls.orderedInsert (fun a b => p.before a b) l := by
  induction ls with
  | nil => rfl
  | cons m rest ih => rw [Profile.place, List.orderedInsert, ih]

theorem Profile.order_eq_insertionSort (p : Profile) :
    p.order = Load.all.insertionSort (fun a b => p.before a b) := by
  have place : p.place = List.orderedInsert (fun a b => p.before a b) := by
    funext l ls
    exact p.place_eq_orderedInsert l ls
  rw [Profile.order, place, List.insertionSort]

theorem Profile.order_perm (p : Profile) : p.order.Perm Load.all := by
  rw [p.order_eq_insertionSort]
  exact List.perm_insertionSort _ _

theorem Profile.order_nodup (p : Profile) : p.order.Nodup :=
  p.order_perm.nodup_iff.mpr (by decide)

theorem Profile.order_pairwise (p : Profile) : p.order.Pairwise p.precedes := by
  have total : Std.Total fun a b => (p.before a b : Prop) := ⟨fun a b => by simp only [Profile.before_iff]; omega⟩
  have trans : IsTrans Load fun a b => (p.before a b : Prop) :=
    ⟨fun a b c => by simp only [Profile.before_iff]; omega⟩
  have sorted : p.order.Pairwise fun a b => (p.before a b : Prop) := by
    rw [p.order_eq_insertionSort]
    exact List.pairwise_insertionSort _ _
  exact (sorted.and p.order_nodup).imp fun {a b} h => (p.precedes_iff_before_ne a b).mpr h

theorem Profile.precedes_asymm {p : Profile} {a b : Load} (h : p.precedes a b) : ¬ p.precedes b a := by
  omega

/-- The blower is granted first: its level and its number are 0. -/
theorem Profile.blw_precedes (p : Profile) {l : Load} (other : l ≠ .blw) : p.precedes .blw l := by
  have level : p.level .blw = 0 := rfl
  have number : Load.number .blw = 0 := rfl
  have later : l.number ≠ Load.number .blw := Load.number_injective.ne other
  omega

/-- The loads that stand before `l` in the order are the ones that precede it. -/
theorem Profile.mem_front_iff_precedes {p : Profile} {front rest : List Load} {l : Load}
    (split : p.order = front ++ l :: rest) (m : Load) : m ∈ front ↔ p.precedes m l := by
  obtain ⟨-, ⟨restAfter, -⟩, frontBefore⟩ :
      front.Pairwise p.precedes ∧ ((∀ b ∈ rest, p.precedes l b) ∧ rest.Pairwise p.precedes) ∧
        ∀ a ∈ front, ∀ b ∈ l :: rest, p.precedes a b := by
    rw [← List.pairwise_cons, ← List.pairwise_append, ← split]
    exact p.order_pairwise
  refine ⟨fun h => frontBefore m h l List.mem_cons_self, fun h => ?_⟩
  have placed : m ∈ front ∨ m = l ∨ m ∈ rest := by simpa [split] using mem_order p m
  rcases placed with inFront | rfl | inRest
  · exact inFront
  · exact absurd h (Profile.precedes_asymm h)
  · exact absurd (restAfter m inRest) (Profile.precedes_asymm h)

theorem PerLoad_sum_ofFn (f : Load → Nat) : (PerLoad.ofFn f).sum = (Load.all.map f).sum := by
  simp [PerLoad.sum, PerLoad.ofFn, Load.all, add_assoc]

/-- A sum over the loads that precede `l` runs over the front of the order. -/
theorem Profile.sum_front {p : Profile} {front rest : List Load} {l : Load} (split : p.order = front ++ l :: rest)
    (f : Load → Nat) : (PerLoad.ofFn fun m => if p.precedes m l then f m else 0).sum = (front.map f).sum := by
  have nodup := p.order_nodup
  rw [split] at nodup
  have inFront : ∀ m ∈ front, (if p.precedes m l then f m else 0) = f m := fun m h =>
    if_pos ((Profile.mem_front_iff_precedes split m).mp h)
  have notInFront : ∀ m ∈ l :: rest, (if p.precedes m l then f m else 0) = 0 := fun m h =>
    if_neg fun earlier => List.disjoint_of_nodup_append nodup ((Profile.mem_front_iff_precedes split m).mpr earlier) h
  rw [PerLoad_sum_ofFn, ← (p.order_perm.map _).sum_eq, split, List.map_append, List.sum_append,
    List.map_congr_left inFront, List.map_congr_left notInFront]
  simp

/-! ### The walk over the order (R64, R66) -/

theorem allocWalk_get_not_mem (i : AllocInputs) (d : PerLoad Nat) {l : Load} {ls : List Load} (h : l ∉ ls) (left : Nat)
    (done : PerLoad Grant) : (allocWalk i d ls left done).get l = done.get l := by
  induction ls generalizing left done with
  | nil => rfl
  | cons m ls ih =>
    obtain ⟨other, absent⟩ := List.ne_and_not_mem_of_not_mem_cons h
    rw [allocWalk, ih absent, PerLoad.get_set_ne _ _ other]

/-- The first load of a walk is granted from the whole budget left, and keeps its grant. -/
theorem allocWalk_get_head (i : AllocInputs) (d : PerLoad Nat) {l : Load} {ls : List Load} (once : l ∉ ls) (left : Nat)
    (done : PerLoad Grant) :
    (allocWalk i d (l :: ls) left done).get l = grantOne i l (d.get l) (done.get .blw).1 left := by
  rw [allocWalk, allocWalk_get_not_mem i d once, PerLoad.get_set_self]
  rfl

/-- A load is granted from what the loads walked before it have left, with the blower's grant as it stands by then. -/
theorem allocWalk_get (i : AllocInputs) (d : PerLoad Nat) {front rest : List Load} {l : Load} {left : Nat}
    {done given : PerLoad Grant} (walk : allocWalk i d (front ++ l :: rest) left done = given)
    (nodup : (front ++ l :: rest).Nodup) :
    given.get l = grantOne i l (d.get l) (if .blw ∈ front then given.get .blw else done.get .blw).1
      (left - (front.map fun m => (given.get m).1).sum) := by
  induction front generalizing left done with
  | nil => exact walk ▸ allocWalk_get_head i d (List.nodup_cons.mp nodup).1 left done
  | cons m front ih =>
    obtain ⟨once, nodup⟩ := List.nodup_cons.mp nodup
    have first : given.get m = grantOne i m (d.get m) (done.get .blw).1 left :=
      walk ▸ allocWalk_get_head i d once left done
    have walkRest : allocWalk i d (front ++ l :: rest) (left - (given.get m).1) (done.set m (given.get m)) = given := by
      rw [first]
      exact walk
    have blower : (if .blw ∈ front then given.get .blw else (done.set m (given.get m)).get .blw) =
        if .blw ∈ m :: front then given.get .blw else done.get .blw := by
      by_cases blw : m = .blw
      · simp [blw]
      · simp [Ne.symm blw]
    rw [ih walkRest nodup, blower, Nat.sub_sub, List.map_cons, List.sum_cons]

/-! ### The grant of one load (R65 to R68) -/

theorem needsBlower_iff (l : Load) : l.needsBlower = true ↔ l = .hpc ∨ l = .air := by
  cases l <;> decide

theorem grantOne_eq (i : AllocInputs) (l : Load) (demand blw left : Nat) :
    grantOne i l demand blw left =
      (if (i.loads.records.get l).claims.nonempty then (0, .inhibited)
       else if (i.loads.records.get l).state = .faulted then (0, .faulted)
       else if (i.loads.records.get l).state = .cooldown then (0, .cooldown)
       else if i.floor < i.profile.level l then (0, .floor)
       else if demand = 0 then (0, .noDemand)
       else if (l = .hpc ∨ l = .air) ∧ blw = 0 then (0, .blower)
       else (offer l demand left, if offer l demand left < demand then .budget else .granted)) := by
  unfold grantOne skipReason LoadRecord.inhibited
  simp only [needsBlower_iff]
  split_ifs <;> rfl

/-- The blower's grant matters only to a load that needs the blower (R67). -/
theorem grantOne_congr_blw (i : AllocInputs) {l : Load} {blw blw' : Nat} (h : l.needsBlower → blw = blw')
    (demand left : Nat) : grantOne i l demand blw left = grantOne i l demand blw' left := by
  cases needs : l.needsBlower with
  | false => simp [grantOne, needs]
  | true => rw [h needs]

/-- Each load of an allocation is granted from the budget that the loads before it have left. -/
theorem allocate_get (i : AllocInputs) (l : Load) :
    (allocate i).get l = grantOne i l ((demands i).get l) ((allocate i).get .blw).1
      (i.budget - (PerLoad.ofFn fun m => if i.profile.precedes m l then ((allocate i).get m).1 else 0).sum) := by
  obtain ⟨front, rest, split⟩ := List.append_of_mem (mem_order i.profile l)
  have nodup := i.profile.order_nodup
  rw [split] at nodup
  have walk : allocWalk i (demands i) (front ++ l :: rest) i.budget (.all (0, .noDemand)) = allocate i := by
    rw [← split]
    rfl
  rw [Profile.sum_front split]
  refine (allocWalk_get i (demands i) walk nodup).trans (grantOne_congr_blw i (fun needs => ?_) _ _)
  have other : l ≠ .blw := by rintro rfl; cases needs
  rw [if_pos ((Profile.mem_front_iff_precedes split _).mpr (i.profile.blw_precedes other))]

end Sys2Proof.Machine

section
open Sys2Proof Sys2Proof.Machine

/-- Settles O41: each load is granted from what the loads before it have left (`allocate_get`), with the grant and the
reason of one load written out (`grantOne_eq`). The grant of the statement is `offer`. -/
theorem allocationSharesBudgetInOrder : Obligations.AllocationSharesBudgetInOrder := by
  intro i l p g demand record left part grant
  exact (allocate_get i l).trans (grantOne_eq i l demand (g .blw) left)

end

/-! PROOFS. The issue of a grant set (R90): each load's grant, reason and record, the forced-off count, and O17. -/

namespace Sys2Proof.Machine

/-! ### The new set (R90, steps 1 to 3) -/

theorem issueOne_eq (r : LoadRecord) (current : Grant) (handed : Option Grant) :
    issueOne r current handed =
      (if (handed.getD current).1 = 0 then handed.getD current
       else if r.claims.nonempty then (0, .inhibited)
       else if r.state = .faulted then (0, .faulted)
       else if r.state = .cooldown then (0, .cooldown)
       else handed.getD current) := rfl

/-- The blower's grant of step 2 stands in the new set, and removes the grants of HPC and AIR alone. -/
theorem issuedSet_get (b : LoadBlock) (handed : Handed) (l : Load) :
    let one := fun m => issueOne (b.records.get m) (b.grants.get m, b.reasons.get m) (handed.get m)
    (issuedSet b handed).get l =
      if (l = .hpc ∨ l = .air) ∧ (one .blw).1 = 0 ∧ (one l).1 ≠ 0 then (0, .blower) else one l := by
  intro one
  by_cases heater : l = .hpc ∨ l = .air
  · simp only [heater, true_and]
    rcases heater with rfl | rfl <;> rfl
  · rw [if_neg fun h => heater h.1]
    cases l with
    | hpc | air => simp at heater
    | blw | scr | seat | bat => rfl

/-! ### The load states (R77) -/

theorem afterGrant_eq (l : Load) (r : LoadRecord) (grant : Nat) :
    r.afterGrant l grant =
      if r.state = .off ∧ grant ≠ 0 then { r with state := .starting, age := 0 }
      else if r.state = .starting ∧ grant = 0 then { r with state := .off, age := 0 }
      else if r.state = .running ∧ grant = 0 then { r with state := if l = .hpc then .cooldown else .off, age := 0 }
      else r := by
  unfold LoadRecord.afterGrant LoadRecord.enter
  by_cases none : grant = 0 <;> cases state : r.state <;> simp [none]

/-! ### The forced-off count (R82) -/

theorem minimumOn_iff (r : LoadRecord) : r.minimumOn = true ↔ r.state = .running ∧ r.age < 120 := by
  simp [LoadRecord.minimumOn]

theorem bump_eq_min (top n : Nat) : bump top n = min top (n + 1) := by
  unfold bump
  split <;> omega

end Sys2Proof.Machine

section
open Sys2Proof Sys2Proof.Machine

/-- Settles O17: `third` of the statement is the new set (`issuedSet_get`), from which `afterGrant_eq` gives the records
and `issueFrom_spec` the count. -/
theorem issueFormsGrantSet : Obligations.IssueFormsGrantSet := by
  intro handed s t first second third hpc
  have newSet : ∀ l, (issuedSet s.loads handed).get l = third l := by
    intro l
    rw [issuedSet_get]
    simp only [issueOne_eq]
    rfl
  obtain ⟨sequence, ackCurrent, ackGrants, forcedOff⟩ := issueFrom_spec hpc handed s
  have removed : t.loads.grants.hpc = (issuedSet s.loads handed).hpc.1 := rfl
  refine ⟨fun l => ⟨?_, ?_⟩, sequence, ?_, ackCurrent, ackGrants, rfl, issueFrom_router hpc handed s,
    rfl, rfl, rfl, rfl, rfl, rfl, rfl, rfl⟩
  · rw [← newSet l]
    exact Prod.ext (issueFrom_grants hpc handed s l) (issueFrom_reasons hpc handed s l)
  · rw [← newSet l]
    exact (issueFrom_records hpc handed s l).trans (afterGrant_eq l _ _)
  · refine forcedOff.trans (if_congr ?_ (bump_eq_min 255 _) rfl)
    rw [removed, minimumOn_iff]
    tauto

end

/-! PROOFS. Requests that only report: a query answered from a state that it leaves as it is, and O16. -/

namespace Sys2Proof.Machine

/-- A query of a port's role, without a payload, whose service leaves its state alone: nothing but the answer changes. -/
theorem request_query {s : State} {p : Port} {r : Request} {reply : List Byte} (h : s.ready p = true)
    (length : r.payload = 0) (role : r.role = some p) (hard : r ≠ .softReset) (free : heldCode r.code = false)
    (serve : serveRequest p r [] (serving p (r.frame []) s) = (serving p (r.frame []) s, .ok reply)) :
    request p (r.frame []) s = answeredOk p r.code reply s :=
  request_accepted (t := serving p (r.frame []) s) h length.symm (.inr role) hard (by simp [free]) serve rfl rfl

theorem exec_drawQuery_ready {s : State} (h : s.ready .supply = true) :
    exec (.drawQuery .supply) s = .next (answeredOk .supply 0x22
      (le16 (sat16 s.power.budget) ++ [s.power.source.code] ++ le16 (sat16 s.loads.committed)
        ++ le16 (sat16 s.power.measured) ++ le16 (sat16 s.loads.grants.sum)
        ++ [s.run.state.code, flagByte s.power.envLost]) s) :=
  congrArg Host.Outcome.next (request_query (r := .drawQuery) h rfl rfl (by decide) rfl rfl)

theorem exec_grantQuery_ready {s : State} (h : s.ready .climate = true) :
    exec (.grantQuery .climate) s = .next (answeredOk .climate 0x42
      ([s.loads.sequence] ++ le16s s.loads.grants ++ s.loads.reasons.toList.map Reason.code
        ++ [byteOf s.loads.forcedOff]) s) :=
  congrArg Host.Outcome.next (request_query (r := .grantQuery) h rfl rfl (by decide) rfl rfl)

/-- The grants of a set on the wire, in load-number order (R73, R96). -/
theorem le16s_eq (x : PerLoad Nat) :
    le16s x = le16 (sat16 x.blw) ++ le16 (sat16 x.hpc) ++ le16 (sat16 x.air) ++ le16 (sat16 x.scr)
      ++ le16 (sat16 x.seat) ++ le16 (sat16 x.bat) := rfl

/-- The committed draw, load by load (R95). -/
theorem committed_eq (b : LoadBlock) :
    b.committed =
      if b.ackCurrent then b.grants.blw + b.grants.hpc + b.grants.air + b.grants.scr + b.grants.seat + b.grants.bat
      else max b.grants.blw b.ackGrants.blw + max b.grants.hpc b.ackGrants.hpc + max b.grants.air b.ackGrants.air
        + max b.grants.scr b.ackGrants.scr + max b.grants.seat b.ackGrants.seat
        + max b.grants.bat b.ackGrants.bat := rfl

end Sys2Proof.Machine

section
open Sys2Proof Sys2Proof.Machine

/-- Settles O16: each query's service, with the committed draw (`committed_eq`) and the fields of the grant set
(`le16s_eq`) written out. -/
theorem drawAndGrantQueriesReport : Obligations.DrawAndGrantQueriesReport := by
  intro s b grants acked committed
  refine ⟨fun supply => ?_, fun climate => ?_⟩
  · rw [exec_drawQuery_ready supply, committed_eq]
    rfl
  · rw [exec_grantQuery_ready climate, le16s_eq]
    rfl

end

/-! PROOFS. A shed (R109, R110): the walk as a fold over the loads, each load with the excess that the loads after it in
the allocation order have left, and O14. -/

namespace Sys2Proof.Machine

/-! ### The loads that stand after a load in the order (R64) -/

/-- The loads that stand after `l` in the order are the ones that it precedes. -/
theorem Profile.mem_rest_iff_precedes {p : Profile} {front rest : List Load} {l : Load}
    (split : p.order = front ++ l :: rest) (m : Load) : m ∈ rest ↔ p.precedes l m := by
  have pairwise := p.order_pairwise
  rw [split, List.pairwise_append, List.pairwise_cons] at pairwise
  obtain ⟨-, ⟨restAfter, -⟩, frontBefore⟩ := pairwise
  refine ⟨restAfter m, fun later => ?_⟩
  have placed : m ∈ front ∨ m = l ∨ m ∈ rest := by simpa [split] using mem_order p m
  rcases placed with inFront | rfl | inRest
  · exact absurd (frontBefore m inFront l List.mem_cons_self) (Profile.precedes_asymm later)
  · exact absurd later (Profile.precedes_asymm later)
  · exact inRest

/-! ### One step of the walk (R109) -/

/-- The grants that stand once what is handed over has replaced the grants in force. -/
def handedGrants (b : LoadBlock) (h : Handed) : PerLoad Nat := .ofFn (handedGrant b h)

@[simp] theorem handedGrants_get (b : LoadBlock) (h : Handed) (l : Load) :
    (handedGrants b h).get l = handedGrant b h l :=
  PerLoad.get_ofFn _ l

@[simp] theorem handedGrants_nothing (b : LoadBlock) : handedGrants b .nothing = b.grants := by
  ext l
  simp [handedGrant, Handed.nothing]

theorem handedGrant_congr (b : LoadBlock) {h k : Handed} {l : Load} (same : h.get l = k.get l) :
    handedGrant b h l = handedGrant b k l := by
  rw [handedGrant, same, handedGrant]

theorem handedGrant_of_none (b : LoadBlock) {h : Handed} {l : Load} (nothing : h.get l = none) :
    handedGrant b h l = b.grants.get l := by
  rw [handedGrant, nothing]
  rfl

theorem handedGrants_set (b : LoadBlock) (h : Handed) (l : Load) (g : Nat) (r : Reason) :
    handedGrants b (h.set l (some (g, r))) = (handedGrants b h).set l g := by
  ext m
  by_cases same : m = l
  · subst same
    simp [handedGrant]
  · simp [handedGrant, same]

/-- What has been handed over once a shed has come to a load: a load with a grant is lowered while the sum is above the
budget. -/
def shedStep (b : LoadBlock) (budget : Nat) (h : Handed) (l : Load) : Handed :=
  if (handedGrants b h).sum ≤ budget ∨ handedGrant b h l = 0 then h
  else h.set l (some (shedGrant l (handedGrant b h l) ((handedGrants b h).sum - budget), .shed))

theorem shedStep_of_within {b : LoadBlock} {budget : Nat} {h : Handed} (within : (handedGrants b h).sum ≤ budget)
    (l : Load) : shedStep b budget h l = h :=
  if_pos (.inl within)

theorem shedStep_get_ne (b : LoadBlock) (budget : Nat) (h : Handed) {l m : Load} (other : m ≠ l) :
    (shedStep b budget h l).get m = h.get m := by
  unfold shedStep
  split
  · rfl
  · exact PerLoad.get_set_ne _ _ other

theorem shedStep_get_self (b : LoadBlock) (budget : Nat) (h : Handed) (l : Load) :
    (shedStep b budget h l).get l =
      if (handedGrants b h).sum ≤ budget ∨ handedGrant b h l = 0 then h.get l
      else some (shedGrant l (handedGrant b h l) ((handedGrants b h).sum - budget), .shed) := by
  unfold shedStep
  split
  · rfl
  · exact PerLoad.get_set_self _ _ _

theorem shedStep_le (b : LoadBlock) (budget : Nat) (h : Handed) (l m : Load) :
    handedGrant b (shedStep b budget h l) m ≤ handedGrant b h m := by
  rw [← handedGrants_get b (shedStep ..), shedStep]
  split
  · simp
  · rw [handedGrants_set]
    by_cases same : m = l
    · subst same
      simpa using shedGrant_le _ _ _
    · simp [same]

/-- A load that the walk has come to has brought the sum to the budget, or has no grant left. -/
theorem shedStep_settles (b : LoadBlock) (budget : Nat) (h : Handed) (l : Load) :
    (handedGrants b (shedStep b budget h l)).sum ≤ budget ∨ handedGrant b (shedStep b budget h l) l = 0 := by
  by_cases still : (handedGrants b h).sum ≤ budget ∨ handedGrant b h l = 0
  · rwa [shedStep, if_pos still]
  · rw [← handedGrants_get, shedStep, if_neg still, handedGrants_set, PerLoad.get_set_self]
    have drop := shedGrant_drop l (handedGrant b h l) ((handedGrants b h).sum - budget)
    have sum := PerLoad_sum_set (handedGrants b h) l
      (shedGrant l (handedGrant b h l) ((handedGrants b h).sum - budget))
    have part := PerLoad_get_le_sum (handedGrants b h) l
    rw [handedGrants_get] at sum part
    omega

/-! ### The whole walk (R109) -/

/-- What a shed that comes to the loads given, in that order, hands over after `h`. -/
def shedFold (b : LoadBlock) (budget : Nat) (ls : List Load) (h : Handed) : Handed :=
  ls.foldl (shedStep b budget) h

theorem shedFold_cons (b : LoadBlock) (budget : Nat) (l : Load) (ls : List Load) (h : Handed) :
    shedFold b budget (l :: ls) h = shedFold b budget ls (shedStep b budget h l) := rfl

theorem shedFold_append (b : LoadBlock) (budget : Nat) (front rest : List Load) (h : Handed) :
    shedFold b budget (front ++ rest) h = shedFold b budget rest (shedFold b budget front h) :=
  List.foldl_append

theorem shedFold_of_within {b : LoadBlock} {budget : Nat} {h : Handed} (within : (handedGrants b h).sum ≤ budget)
    (ls : List Load) : shedFold b budget ls h = h := by
  induction ls with
  | nil => rfl
  | cons l ls ih => rw [shedFold_cons, shedStep_of_within within, ih]

/-- The walk of the model, which stops at the budget, is the fold, which then changes nothing more. -/
theorem shedWalk_eq_shedFold (b : LoadBlock) (budget : Nat) (ls : List Load) (h : Handed) :
    shedWalk budget ls (handedGrants b h) h = shedFold b budget ls h := by
  induction ls generalizing h with
  | nil => rfl
  | cons l ls ih =>
    rw [shedWalk, handedGrants_get]
    split_ifs with within ungranted
    · exact (shedFold_of_within within _).symm
    · rw [ih, shedFold_cons, shedStep, if_pos (.inr ungranted)]
    · dsimp only
      rw [← handedGrants_set b h l _ .shed, ih, shedFold_cons, shedStep, if_neg (by tauto)]

theorem shedFold_get_not_mem (b : LoadBlock) (budget : Nat) {l : Load} {ls : List Load} (absent : l ∉ ls)
    (h : Handed) : (shedFold b budget ls h).get l = h.get l := by
  induction ls generalizing h with
  | nil => rfl
  | cons m ls ih =>
    obtain ⟨other, absent⟩ := List.ne_and_not_mem_of_not_mem_cons absent
    rw [shedFold_cons, ih absent, shedStep_get_ne b budget h other]

theorem shedFold_le (b : LoadBlock) (budget : Nat) (ls : List Load) (h : Handed) (m : Load) :
    handedGrant b (shedFold b budget ls h) m ≤ handedGrant b h m := by
  induction ls generalizing h with
  | nil => exact le_rfl
  | cons l ls ih => exact (ih _).trans (shedStep_le b budget h l m)

theorem shedFold_sum_le (b : LoadBlock) (budget : Nat) (ls : List Load) (h : Handed) :
    (handedGrants b (shedFold b budget ls h)).sum ≤ (handedGrants b h).sum :=
  PerLoad_sum_le fun m => by simpa using shedFold_le b budget ls h m

/-- While the sum is above the budget, the loads that the walk has come to have no grant left. -/
theorem shedFold_zero_of_above {b : LoadBlock} {budget : Nat} {ls : List Load} {h : Handed}
    (above : budget < (handedGrants b (shedFold b budget ls h)).sum) {l : Load} (mem : l ∈ ls) :
    handedGrant b (shedFold b budget ls h) l = 0 := by
  obtain ⟨front, rest, rfl⟩ := List.append_of_mem mem
  rw [shedFold_append, shedFold_cons] at above ⊢
  have settled := shedStep_settles b budget (shedFold b budget front h) l
  have sum := shedFold_sum_le b budget rest (shedStep b budget (shedFold b budget front h) l)
  have left := shedFold_le b budget rest (shedStep b budget (shedFold b budget front h) l) l
  omega

/-! ### What a shed hands over (R109) -/

/-- What a shed hands over for a load block, in the reverse of the allocation order of a profile. -/
def shedHanded (p : Profile) (b : LoadBlock) (budget : Nat) : Handed :=
  shedFold b budget p.order.reverse .nothing

theorem shedHanded_le (p : Profile) (b : LoadBlock) (budget : Nat) (l : Load) :
    handedGrant b (shedHanded p b budget) l ≤ b.grants.get l := by
  have le := shedFold_le b budget p.order.reverse .nothing l
  rwa [handedGrant_of_none (h := .nothing) b (PerLoad.get_all _ _)] at le

/-- The grants as they stand when a shed comes to a load: those of the later loads are final, and the others are the
grants in force. -/
def grantsReached (p : Profile) (b : LoadBlock) (budget : Nat) (l : Load) : PerLoad Nat :=
  .ofFn fun m => if p.precedes l m then handedGrant b (shedHanded p b budget) m else b.grants.get m

/-- The walk up to a load: it has come to the loads that `l` precedes, and what it hands over for `l` next is final. -/
theorem exists_shedFold_reached (p : Profile) (b : LoadBlock) (budget : Nat) (l : Load) :
    ∃ ls, (∀ m, m ∈ ls ↔ p.precedes l m) ∧
      handedGrants b (shedFold b budget ls .nothing) = grantsReached p b budget l ∧
      (shedHanded p b budget).get l = (shedStep b budget (shedFold b budget ls .nothing) l).get l := by
  obtain ⟨earlier, later, split⟩ := List.append_of_mem (mem_order p l)
  have reversed : p.order.reverse = later.reverse ++ l :: earlier.reverse := by simp [split]
  have nodup : (later.reverse ++ l :: earlier.reverse).Nodup := reversed ▸ List.nodup_reverse.mpr p.order_nodup
  obtain ⟨-, nodupRest, apart⟩ := List.nodup_append.mp nodup
  have memLater : ∀ m, m ∈ later.reverse ↔ p.precedes l m := fun m => by
    rw [List.mem_reverse, Profile.mem_rest_iff_precedes split]
  have whole : shedHanded p b budget = shedFold b budget earlier.reverse
      (shedStep b budget (shedFold b budget later.reverse .nothing) l) := by
    rw [shedHanded, reversed, shedFold_append, shedFold_cons]
  refine ⟨later.reverse, memLater, ?_, ?_⟩
  · ext m
    rw [grantsReached, PerLoad.get_ofFn, handedGrants_get]
    split_ifs with precedes
    · have differs := apart m ((memLater m).mpr precedes)
      have absent : m ∉ earlier.reverse := fun inRest => differs m (List.mem_cons_of_mem l inRest) rfl
      refine handedGrant_congr b ?_
      rw [whole, shedFold_get_not_mem b budget absent, shedStep_get_ne b budget _ (differs l List.mem_cons_self)]
    · refine handedGrant_of_none b ?_
      rw [shedFold_get_not_mem b budget ((memLater m).not.mpr precedes), Handed.nothing, PerLoad.get_all]
  · rw [whole, shedFold_get_not_mem b budget (List.nodup_cons.mp nodupRest).1]

/-- A shed hands over a lowered grant for a load that it reaches with an excess, and nothing for any other. -/
theorem shedHanded_get (p : Profile) (b : LoadBlock) (budget : Nat) (l : Load) :
    (shedHanded p b budget).get l =
      if (grantsReached p b budget l).sum ≤ budget ∨ b.grants.get l = 0 then none
      else some (shedGrant l (b.grants.get l) ((grantsReached p b budget l).sum - budget), .shed) := by
  obtain ⟨ls, mem, grants, step⟩ := exists_shedFold_reached p b budget l
  have own : (shedFold b budget ls .nothing).get l = none := by
    rw [shedFold_get_not_mem b budget (by simp [mem]), Handed.nothing, PerLoad.get_all]
  rw [step, shedStep_get_self, grants, handedGrant_of_none b own, own]

/-- Where a shed comes to a load with an excess, the loads after it have no grant left. -/
theorem shedHanded_zero_of_excess {p : Profile} {b : LoadBlock} {budget : Nat} {l m : Load}
    (excess : budget < (grantsReached p b budget l).sum) (later : p.precedes l m) :
    handedGrant b (shedHanded p b budget) m = 0 := by
  obtain ⟨ls, mem, grants, -⟩ := exists_shedFold_reached p b budget l
  have zero := shedFold_zero_of_above (grants ▸ excess) ((mem m).mpr later)
  rwa [← handedGrants_get, grants, grantsReached, PerLoad.get_ofFn, if_pos later] at zero

/-- A shed that leaves the blower without a grant leaves the heaters without one: the blower is the last load that it
comes to. -/
theorem shedHanded_blower {p : Profile} {b : LoadBlock} {budget : Nat}
    (before : b.grants.blw = 0 → b.grants.hpc = 0 ∧ b.grants.air = 0)
    (off : handedGrant b (shedHanded p b budget) .blw = 0) (l : Load) (heater : l = .hpc ∨ l = .air) :
    handedGrant b (shedHanded p b budget) l = 0 := by
  by_cases kept : (grantsReached p b budget .blw).sum ≤ budget ∨ b.grants.get .blw = 0
  · rw [handedGrant_of_none b (by rw [shedHanded_get, if_pos kept])] at off
    have ungranted : b.grants.get l = 0 := by
      obtain ⟨hpc, air⟩ := before off
      rcases heater with rfl | rfl
      · exact hpc
      · exact air
    exact Nat.le_zero.mp (ungranted ▸ shedHanded_le p b budget l)
  · obtain ⟨excess, -⟩ := not_or.mp kept
    have other : l ≠ .blw := by rcases heater with rfl | rfl <;> decide
    exact shedHanded_zero_of_excess (not_le.mp excess) (p.blw_precedes other)

/-! ### The issue of what a shed hands over (R90) -/

/-- An issue that hands no grant to a load that may not run, and none to a heater without the blower, forms the set as
it is handed over. -/
theorem issuedSet_of_allowed {b : LoadBlock} {h : Handed}
    (runs : ∀ l, handedGrant b h l ≠ 0 → (b.records.get l).inhibited = false ∧
      ((b.records.get l).state = .starting ∨ (b.records.get l).state = .running))
    (coupled : handedGrant b h .blw = 0 → ∀ l, l = .hpc ∨ l = .air → handedGrant b h l = 0) (l : Load) :
    (issuedSet b h).get l = (h.get l).getD (b.grants.get l, b.reasons.get l) := by
  have one : ∀ m, issueOne (b.records.get m) (b.grants.get m, b.reasons.get m) (h.get m) =
      (h.get m).getD (b.grants.get m, b.reasons.get m) := by
    intro m
    unfold issueOne
    dsimp only
    split_ifs with zero inhibited faulted cooldown
    · rfl
    all_goals
      obtain ⟨free, active⟩ := runs m zero
      simp_all
  rw [issuedSet_get]
  simp only [one]
  refine if_neg ?_
  rintro ⟨heater, off, on⟩
  exact on (coupled off l heater)

/-! ### The state after a shed (R109, R110) -/

/-- A shed is the issue of what it hands over, with the two counts and the event (R109, R110). -/
theorem shed_eq (p : Profile) (s : State) :
    shed p s =
      let t := countShed (issue (shedHanded p s.loads s.power.budget) s)
      raise .shed { t with log := { t.log with acc := { t.log.acc with sheds := t.log.acc.sheds + 1 } } } := by
  rw [shedHanded, ← shedWalk_eq_shedFold, handedGrants_nothing]
  rfl

theorem shed_loads (p : Profile) (s : State) :
    (shed p s).loads = (issue (shedHanded p s.loads s.power.budget) s).loads := by
  simp [shed_eq]

theorem shed_log (p : Profile) (s : State) :
    (shed p s).log = { s.log with acc := { s.log.acc with sheds := s.log.acc.sheds + 1 } } := by
  simp [shed]

theorem shed_router (p : Profile) (s : State) : (shed p s).router = recorded [.grantChanged, .shed] s.router := by
  simp [shed, issue]

/-- The shed counts in the open slot alone; the issue changes neither the plan nor the slots. -/
theorem shed_plan (p : Profile) (s : State) : (shed p s).plan = (countShed s).plan := by
  simp only [shed, raise_plan, countShed, issue_slots, issue_plan]
  split <;> rfl

theorem countShed_of_closed {s : State} (closed : s.slots.openSlot = none) : countShed s = s := by
  simp [countShed, closed]

theorem countShed_plan_of_open {s : State} {n : Nat} {r : PlanRecord} (opened : s.slots.openSlot = some n)
    (record : s.plan.plan = some r) :
    (countShed s).plan.plan = some { r with slots := r.slots.modify n SlotEntry.addShed } := by
  simp [countShed, opened, record]

theorem addShed_of_actual {e : SlotEntry} {a : ActualPart} (actual : e.actual = some a) :
    e.addShed = { e with actual := some { a with sheds := a.sheds + 1 } } := by
  simp [SlotEntry.addShed, actual]

section
variable {p : Profile} {s : State} (follow : s.grantsFollowStates) (coupled : s.heatersNeedBlower)
include follow coupled

/-- The issue of a shed takes away nothing more than the shed does. -/
theorem shed_grant_reason (l : Load) :
    ((shed p s).loads.grants.get l, (shed p s).loads.reasons.get l) =
      ((shedHanded p s.loads s.power.budget).get l).getD (s.loads.grants.get l, s.loads.reasons.get l) := by
  have runs : ∀ m, handedGrant s.loads (shedHanded p s.loads s.power.budget) m ≠ 0 →
      (s.loads.records.get m).inhibited = false ∧
        ((s.loads.records.get m).state = .starting ∨ (s.loads.records.get m).state = .running) := by
    intro m on
    have granted : s.loads.grants.get m ≠ 0 := fun zero =>
      on (Nat.le_zero.mp (zero ▸ shedHanded_le p s.loads s.power.budget m))
    obtain ⟨active, free⟩ := follow m
    exact ⟨Bool.eq_false_iff.mpr fun inhibited => granted (free inhibited), active.mp granted⟩
  rw [shed_loads, issue, issueFrom_grants, issueFrom_reasons]
  exact issuedSet_of_allowed runs (shedHanded_blower coupled) l

theorem shed_grants_get (l : Load) :
    (shed p s).loads.grants.get l = handedGrant s.loads (shedHanded p s.loads s.power.budget) l :=
  congrArg Prod.fst (shed_grant_reason follow coupled l)

/-- A load that a shed reaches with an excess gets its lowered grant with reason SHED; any other keeps what it has. -/
theorem shed_load (l : Load) :
    let reached := PerLoad.ofFn fun m => if p.precedes l m then (shed p s).loads.grants.get m else s.loads.grants.get m
    let old := s.loads.grants.get l
    let excess := reached.sum - s.power.budget
    (shed p s).loads.grants.get l = (if excess = 0 ∨ old = 0 then old else shedGrant l old excess) ∧
      (shed p s).loads.reasons.get l = (if excess = 0 ∨ old = 0 then s.loads.reasons.get l else .shed) := by
  intro reached old excess
  have reachedEq : reached = grantsReached p s.loads s.power.budget l := by
    simp only [reached, grantsReached, shed_grants_get follow coupled]
  have both := shed_grant_reason (p := p) follow coupled l
  rw [shedHanded_get, ← reachedEq] at both
  simp only [excess, Nat.sub_eq_zero_iff_le]
  split_ifs at both ⊢ <;> exact Prod.mk.inj both

end

end Sys2Proof.Machine

section
open Sys2Proof Sys2Proof.Machine

/-- Settles O14: each load by `shed_load`, whose lowered grant is `shedGrant`; the rest is the frame of a shed. -/
theorem shedLowersGrantsInReverseOrder : Obligations.ShedLowersGrantsInReverseOrder := by
  intro p s follow coupled _ t
  refine ⟨shed_sum p s, shed_load follow coupled, ?_, shed_log p s, shed_router p s, fun closed => ?_,
    fun n opened r record e entry a actual => ?_, shed_run p s, shed_slots p s, shed_power p s, shed_track p s,
    shed_store p s, shed_port p s⟩
  · exact congrArg LoadBlock.sequence (shed_loads p s)
  · exact (shed_plan p s).trans (congrArg State.plan (countShed_of_closed closed))
  · refine ⟨_, (congrArg PlanBlock.plan (shed_plan p s)).trans (countShed_plan_of_open opened record), ?_⟩
    simp [entry, addShed_of_actual actual]

end

/-! PROOFS. The grant floor (R112 to R114): when a new floor issues a grant set, and O15. -/

namespace Sys2Proof.Machine

theorem flooredLoads_eq_nothing_iff (p : Profile) (floor : Nat) (grants : PerLoad Nat) :
    flooredLoads p floor grants = .nothing ↔ ∀ l, grants.get l = 0 ∨ p.level l ≤ floor := by
  have one : ∀ l, (flooredLoads p floor grants).get l = Handed.nothing.get l ↔
      grants.get l = 0 ∨ p.level l ≤ floor := fun l => by
    simp [flooredLoads, Handed.nothing, or_iff_not_imp_left]
  exact ⟨fun same l => (one l).mp (same ▸ rfl), fun kept => PerLoad.ext_get fun l => (one l).mpr (kept l)⟩

/-- A floor that is not lowered, or above which no load has a grant, is only stored (R114). -/
theorem setFloor_of_kept {floor : Nat} {s : State}
    (kept : s.power.floor ≤ floor ∨ ∀ l, s.loads.grants.get l = 0 ∨ s.inForce.level l ≤ floor) :
    setFloor floor s = { s with power := { s.power with floor := floor } } := by
  refine if_neg ?_
  rintro ⟨lower, handed⟩
  exact kept.elim (not_le.mpr lower) fun unmet => handed ((flooredLoads_eq_nothing_iff _ _ _).mpr unmet)

/-- A lowering below the level of a load with a grant issues the removal of each such grant (R113). -/
theorem setFloor_of_lowered {floor : Nat} {s : State} (lower : floor < s.power.floor)
    (above : ∃ l, s.loads.grants.get l ≠ 0 ∧ floor < s.inForce.level l) :
    setFloor floor s = issue (flooredLoads s.inForce floor s.loads.grants)
      { s with power := { s.power with floor := floor } } := by
  obtain ⟨l, granted, level⟩ := above
  refine if_pos ⟨lower, fun empty => ?_⟩
  exact ((flooredLoads_eq_nothing_iff _ _ _).mp empty l).elim granted (not_le.mpr level)

@[simp] theorem setFloor_floor (floor : Nat) (s : State) : (setFloor floor s).power.floor = floor := by
  unfold setFloor
  dsimp only
  split <;> simp

/-- The floor is set in a state that is being served as in the state before it, but for the port block. -/
theorem setFloor_serving (floor : Nat) (p : Port) (f : Frame) (s : State) :
    { setFloor floor (serving p f s) with port := s.port } = setFloor floor s := by
  by_cases kept : s.power.floor ≤ floor ∨ ∀ l, s.loads.grants.get l = 0 ∨ s.inForce.level l ≤ floor
  · rw [setFloor_of_kept kept, setFloor_of_kept (s := serving p f s) kept]
    rfl
  · obtain ⟨lower, above⟩ : floor < s.power.floor ∧ ∃ l, s.loads.grants.get l ≠ 0 ∧ floor < s.inForce.level l := by
      simpa using kept
    rw [setFloor_of_lowered lower above, setFloor_of_lowered (s := serving p f s) lower above]
    rfl

theorem exec_floorSet_ready {s : State} (floor : Byte) (h : s.ready .supply = true) :
    exec (.floorSet .supply floor) s =
      .next (answeredOk .supply 0x21 [byteOf (min floor.toNat 3)] (setFloor (min floor.toNat 3) s)) := by
  have serve : serveRequest .supply .floorSet [floor] (serving .supply (Request.floorSet.frame [floor]) s) =
      (setFloor (min floor.toNat 3) (serving .supply (Request.floorSet.frame [floor]) s),
        .ok [byteOf (min floor.toNat 3)]) := by
    change serveFloorSet floor _ = _
    rw [serveFloorSet, setFloor_floor]
  have answer := request_accepted h rfl (.inr rfl) (by decide) (by simp [heldCode, Request.code]) serve
    (serveFloorSet_port floor _) (congrArg RunBlock.held (serveFloorSet_run floor _))
  rw [setFloor_serving] at answer
  exact congrArg Host.Outcome.next answer

end Sys2Proof.Machine

section
open Sys2Proof Sys2Proof.Machine

/-- Settles O15: the service sets the floor (`exec_floorSet_ready`), with or without an issue (`setFloor_of_lowered`,
`setFloor_of_kept`). -/
theorem floorSetRemovesGrantsAbove : Obligations.FloorSetRemovesGrantsAbove := by
  intro floor s ready new stored sent
  have served : sent = .next (answeredOk .supply 0x21 [byteOf new] (setFloor new s)) := exec_floorSet_ready floor ready
  refine ⟨fun kept => ?_, fun lower above => ?_⟩
  · rw [served, setFloor_of_kept kept]
  · rw [served, setFloor_of_lowered lower above]
    rfl

end

/-! PROOFS. The readiness forecast (R137, R138) and the COP lookup (R55): the margin as a clamp, the class by its margin,
the lookup as the highest breakpoint, and O50. -/

namespace Sys2Proof.Machine

/-! ### The margin (R137) -/

theorem clampInt_eq_max_min {lo hi : Int} (h : lo ≤ hi) (x : Int) : clampInt lo hi x = max lo (min hi x) := by
  unfold clampInt
  split
  · omega
  · split <;> omega

theorem readinessMargin_some (remaining settle t : Nat) :
    readinessMargin remaining settle (some t) = max (-32767) (min 32767 ((remaining : Int) - settle - t)) :=
  clampInt_eq_max_min (by decide) _

/-! ### The class (R138) -/

theorem readinessClass_of_near {p : Profile} {tCab : Int} (near : (tCab - p.tSet).natAbs ≤ p.wTrack) (remaining : Nat)
    (heating : Option Nat) : readinessClass p tCab remaining heating = .ready :=
  if_pos near

theorem readinessClass_of_unreachable {p : Profile} {tCab : Int} (far : p.wTrack < (tCab - p.tSet).natAbs)
    (remaining : Nat) : readinessClass p tCab remaining none = .unreachable :=
  if_neg (not_le.mpr far)

/-- The comparison of R138 with the settle margin and the heating time is the sign of the margin of R137 before its clamp. -/
theorem readinessClass_of_heating {p : Profile} {tCab : Int} (far : p.wTrack < (tCab - p.tSet).natAbs)
    (remaining t : Nat) :
    readinessClass p tCab remaining (some t) =
      if 0 ≤ (remaining : Int) - p.settle - t then .onTime else if t ≤ remaining then .atRisk else .late := by
  have onTime_iff : p.settle + t ≤ remaining ↔ 0 ≤ (remaining : Int) - p.settle - t := by omega
  rw [readinessClass, if_neg (not_le.mpr far)]
  simp only [onTime_iff]

/-! ### The COP lookup (R55) -/

/-- The lookup stands at the highest breakpoint at or below the outdoor temperature: each branch of the lookup is the
interval from one breakpoint to the next, the first without a lower end and the last without an upper one. -/
theorem copIndex_eq {tOut : Int} {i : Nat} (bound : i < 8) (reached : i = 0 ∨ -400 + 100 * (i : Int) ≤ tOut)
    (highest : i = 7 ∨ tOut < -300 + 100 * (i : Int)) : copIndex tOut = i := by
  unfold copIndex
  repeat' split
  all_goals omega

theorem CopTable.get_eq_getElem? (c : CopTable) {i : Nat} (bound : i < 8) :
    some (c.get i) = [c.c0, c.c1, c.c2, c.c3, c.c4, c.c5, c.c6, c.c7][i]? := by
  interval_cases i <;> rfl

end Sys2Proof.Machine

section
open Sys2Proof Sys2Proof.Machine

/-- Settles O50: the margin is `readinessMargin_some`, the class is read off `readinessClass_of_heating` by the sign of the
margin, and `copIndex_eq` finds the entry of the COP table. -/
theorem forecastGivesClassAndMargin : Obligations.ForecastGivesClassAndMargin := by
  refine ⟨fun p tCab remaining heating => ⟨rfl, readinessMargin_some remaining p.settle,
    fun near => readinessClass_of_near near remaining heating, ?unreachable, ?reachable⟩, ?cop⟩
  case unreachable =>
    rintro far rfl
    exact readinessClass_of_unreachable far remaining
  case reachable =>
    rintro t far rfl
    rw [readinessClass_of_heating far]
    exact ⟨fun intime => if_pos intime,
      fun short warm => (if_neg (not_le.mpr short)).trans (if_pos warm),
      fun short cold => (if_neg (not_le.mpr short)).trans (if_neg (not_le.mpr cold))⟩
  case cop =>
    intro c tOut i bound reached highest
    rw [CopTable.at, copIndex_eq bound reached highest]
    exact c.get_eq_getElem? bound

end

/-! PROOFS. The pending sets and the attention lines (R156, R159): Event Query and Event Mask Set at a ready port, the
lines after a write of one pending set, and O4. -/

namespace Sys2Proof.Machine

/-! ### The attention lines (R156) -/

/-- A port whose pending set is empty has its attention line released. -/
theorem attention_of_empty {s : State} {p : Port} (empty : s.router.pendings.get p = 0) : s.attention p = false := by
  rw [State.attention, empty]
  rfl

/-- A port's attention line depends on its own pending set alone. -/
theorem attention_congr {s t : State} {p : Port} (same : t.router.pendings.get p = s.router.pendings.get p) :
    t.attention p = s.attention p := by
  rw [State.attention, State.attention, same]

/-! ### The mask set (R159) -/

@[simp] theorem fieldAt_le16 (w : U16) : fieldAt (le16 w) 0 = w := word16_bytes w

theorem serveEventMaskSet_of_reserved {p : Port} {mask : U16} (reserved : mask.getLsbD 15 = true) (s : State) :
    serveEventMaskSet p mask s = (s, .refused .range) :=
  if_pos reserved

theorem serveEventMaskSet_of_lawful {p : Port} {mask : U16} (lawful : mask.getLsbD 15 = false) (s : State) :
    serveEventMaskSet p mask s =
      ({ s with router :=
          { masks := s.router.masks.set p mask, pendings := s.router.pendings.set p (s.router.pendings.get p &&& mask) } },
        .ok (le16 mask ++ le16 (s.router.pendings.get p &&& mask))) :=
  if_neg (Bool.eq_false_iff.mp lawful)

theorem serveRequest_eventMaskSet (p : Port) (mask : U16) (s : State) :
    serveRequest p .eventMaskSet (le16 mask) s = serveEventMaskSet p mask s := by
  rw [serveRequest, fieldAt_le16]

/-! ### The two requests at a ready port -/

theorem exec_eventQuery_ready {s : State} {p : Port} (h : s.ready p = true) :
    exec (.eventQuery p) s = .next (answeredOk p 0x02 (le16 (s.router.pendings.get p))
      { s with router := { s.router with pendings := s.router.pendings.set p 0 } }) :=
  congrArg Host.Outcome.next
    (request_accepted (r := .eventQuery) h rfl (.inl rfl) (by decide) (by simp [heldCode, Request.code]) rfl rfl rfl)

theorem exec_eventMaskSet_reserved {s : State} {p : Port} {mask : U16} (h : s.ready p = true)
    (reserved : mask.getLsbD 15 = true) :
    exec (.eventMaskSet p mask) s = .next (refused p 0x13 0x03 s) := by
  have serve := (serveRequest_eventMaskSet p mask (serving p (Request.eventMaskSet.frame (le16 mask)) s)).trans
    (serveEventMaskSet_of_reserved reserved _)
  exact congrArg Host.Outcome.next
    (request_rejected h rfl (.inl rfl) (by decide) (by simp [heldCode, Request.code]) serve)

theorem exec_eventMaskSet_lawful {s : State} {p : Port} {mask : U16} (h : s.ready p = true)
    (lawful : mask.getLsbD 15 = false) :
    exec (.eventMaskSet p mask) s =
      .next (answeredOk p 0x03 (le16 mask ++ le16 (s.router.pendings.get p &&& mask))
        { s with router :=
          { masks := s.router.masks.set p mask,
            pendings := s.router.pendings.set p (s.router.pendings.get p &&& mask) } }) := by
  have serve := (serveRequest_eventMaskSet p mask (serving p (Request.eventMaskSet.frame (le16 mask)) s)).trans
    (serveEventMaskSet_of_lawful lawful _)
  exact congrArg Host.Outcome.next
    (request_accepted h rfl (.inl rfl) (by decide) (by simp [heldCode, Request.code]) serve rfl rfl)

end Sys2Proof.Machine

section
open Sys2Proof Sys2Proof.Machine

/-- Settles O4: the answers are `exec_eventQuery_ready`, `exec_eventMaskSet_reserved` and `exec_eventMaskSet_lawful`, and
each line is read off its own pending set (`attention_of_empty`, `attention_congr`). -/
theorem eventRequestsKeepPendingSets : Obligations.EventRequestsKeepPendingSets := by
  intro p s ready emptied
  refine ⟨exec_eventQuery_ready ready, ?own, ?others, fun mask =>
    ⟨exec_eventMaskSet_reserved ready, exec_eventMaskSet_lawful ready⟩⟩
  case own => exact attention_of_empty (PerPort.get_set_self _ p 0)
  case others => exact fun q other => attention_congr (PerPort.get_set_ne _ 0 other)

end

/-! PROOFS. Requests open to every port whose answer is a report: Profile Field Read and Setting Read (R144, R181) with
O9, and Status Query with the one flag that it clears (R180) with O3. -/

namespace Sys2Proof.Machine

/-! ### Reads: services that leave their state as it is -/

/-- A request whose service leaves its state alone, accepted or refused, is its reply at the port and nothing else. -/
theorem request_read {s : State} {p : Port} {r : Request} {payload : List Byte} {reply : Reply} (h : s.ready p = true)
    (length : payload.length = r.payload) (role : r.role = none ∨ r.role = some p) (hard : r ≠ .softReset)
    (free : heldCode r.code = false)
    (serve : serveRequest p r payload (serving p (r.frame payload) s) = (serving p (r.frame payload) s, reply)) :
    request p (r.frame payload) s = answered p (reply.frame r.code) s := by
  obtain ⟨-, empty, -, -, -⟩ := (ready_iff s p).mp h
  rw [request_answers h length role hard (by simp [free]) serve rfl, install_serving _ empty rfl]
  rfl

/-! ### Profile Field Read (R144) -/

theorem bankOf_of_four_le {bank : Byte} (beyond : 4 ≤ bank.toNat) : bankOf bank = none := dif_neg (not_lt.mpr beyond)

theorem bankOf_of_toNat_eq {bank : Byte} {b : Fin 4} (same : bank.toNat = b.val) : bankOf bank = some b :=
  (dif_pos (same ▸ b.isLt)).trans (congrArg some (Fin.ext same))

/-- The field ids end at 24 (R143). -/
theorem Field.ofId_of_le {n : Nat} (beyond : 25 ≤ n) : Field.ofId n = none := List.getElem?_eq_none beyond

theorem serveProfileFieldRead_of_bank {bank : Byte} (beyond : 4 ≤ bank.toNat) (field : Byte) (s : State) :
    serveProfileFieldRead bank field s = (s, .refused .range) := by
  rw [serveProfileFieldRead, bankOf_of_four_le beyond]

theorem serveProfileFieldRead_of_field {bank field : Byte} (known : bank.toNat < 4) (beyond : 25 ≤ field.toNat)
    (s : State) : serveProfileFieldRead bank field s = (s, .refused .field) := by
  have lawful : bankOf bank = some ⟨bank.toNat, known⟩ := bankOf_of_toNat_eq rfl
  rw [serveProfileFieldRead, lawful, Field.ofId_of_le beyond]

theorem serveProfileFieldRead_of_known {bank field : Byte} {b : Fin 4} {f : Field} (lawful : bank.toNat = b.val)
    (known : Field.ofId field.toNat = some f) (s : State) :
    serveProfileFieldRead bank field s =
      (s, .ok ([bank, field] ++ le16 (signed16 ((s.store.banks.get b).get f)))) := by
  rw [serveProfileFieldRead, bankOf_of_toNat_eq lawful, known]

theorem exec_profileFieldRead_ready {s : State} {p : Port} {bank field : Byte} {reply : Reply} (h : s.ready p = true)
    (serve : serveProfileFieldRead bank field (serving p (Request.profileFieldRead.frame [bank, field]) s) =
      (serving p (Request.profileFieldRead.frame [bank, field]) s, reply)) :
    exec (.profileFieldRead p bank field) s = .next (answered p (reply.frame 0x09) s) :=
  congrArg Host.Outcome.next (request_read (r := .profileFieldRead) h rfl (.inl rfl) (by decide) rfl serve)

/-! ### Setting Read (R181) -/

/-- The seventeen device-wide settings in the order of their ids (R181; 07, 7.2). -/
def State.settings (s : State) : List Nat :=
  [s.slots.cop.c0, s.slots.cop.c1, s.slots.cop.c2, s.slots.cop.c3, s.slots.cop.c4, s.slots.cop.c5, s.slots.cop.c6,
    s.slots.cop.c7, s.loads.hpcLimit, s.loads.airLimit, s.loads.batLimit, s.track.sensorTimeout, s.plan.slotLength,
    s.power.floor, s.run.unit.code, s.run.mode.code, s.run.period]

/-- The model's lookup is the table's: the COP table first, then the settings of the blocks, and none from 17 on. -/
theorem settingOf_eq_settings (s : State) (id : Nat) : settingOf s id = s.settings[id]? := by
  rcases lt_or_ge id 8 with cop | rest
  · rw [settingOf, if_pos cop, s.slots.cop.get_eq_getElem? cop]
    exact (List.getElem?_append_left cop).symm
  · rcases lt_or_ge id 17 with known | beyond
    · interval_cases id <;> rfl
    · rw [List.getElem?_eq_none (l := s.settings) beyond, settingOf]
      repeat rw [if_neg (by omega)]

theorem serveSettingRead_of_beyond {id : Byte} (beyond : 17 ≤ id.toNat) (s : State) :
    serveSettingRead id s = (s, .refused .range) := by
  rw [serveSettingRead, settingOf_eq_settings, List.getElem?_eq_none (l := s.settings) beyond]

theorem serveSettingRead_of_known {id : Byte} {v : Nat} {s : State} (known : s.settings[id.toNat]? = some v) :
    serveSettingRead id s = (s, .ok ([id] ++ le16 (sat16 v))) := by
  rw [serveSettingRead, settingOf_eq_settings, known]

theorem exec_settingRead_ready {s : State} {p : Port} {id : Byte} {reply : Reply} (h : s.ready p = true)
    (serve : serveSettingRead id (serving p (Request.settingRead.frame [id]) s) =
      (serving p (Request.settingRead.frame [id]) s, reply)) :
    exec (.settingRead p id) s = .next (answered p (reply.frame 0x0C) s) :=
  congrArg Host.Outcome.next (request_read (r := .settingRead) h rfl (.inl rfl) (by decide) rfl serve)

/-! ### Status Query (R180) -/

/-- The six flags of the Status Query response, each with the weight of its bit (09, 9.7). -/
theorem statusFlags_eq (t : TrackBlock) (envLost overflow : Bool) :
    statusFlags t envLost overflow =
      byteOf (t.track.toNat + 2 * t.tracks.toNat + 4 * t.sensorLost.toNat + 8 * envLost.toNat + 16 * overflow.toNat
        + 32 * t.openLoop.toNat) := by
  simp only [statusFlags, flagsByte, List.foldr]
  congr 1
  omega

/-- A service that sets its own port's overflow flag and leaves the rest: the flag and the answer remain. -/
theorem install_overflow_serving {s : State} {p : Port} {f : Frame} (reply : List Byte) (overflow : Bool)
    (empty : (s.port.ports.get p).rx = .empty) :
    install p reply (setPort p { (serving p f s).port.ports.get p with overflow := overflow } (serving p f s)) =
      answered p reply (setPort p { s.port.ports.get p with overflow := overflow } s) := by
  simp [install, setPort, answered, serving, empty]

/-- The bytes after the header of a Status Query response (R180; 09, 9.7). -/
def statusReport (p : Port) (s : State) : List Byte :=
  [s.run.state.code] ++ le32 s.run.remaining ++ [s.track.readiness.code] ++ le16 (signed16 s.track.margin)
    ++ [s.track.tracker.code, statusFlags s.track s.power.envLost (s.port.ports.get p).overflow,
        byteOf s.store.active.val, s.loads.sequence]
    ++ le16 (sat16 s.power.budget)

theorem serveStatusQuery_eq (p : Port) (s : State) :
    serveStatusQuery p s =
      (setPort p { s.port.ports.get p with overflow := false } s, .ok (statusReport p s)) := rfl

/-- The overflow flag reported is the one that stood before the service: taking the frame into service keeps it. -/
theorem statusReport_serving (p : Port) (f : Frame) (s : State) :
    statusReport p (serving p f s) = statusReport p s := by
  simp [statusReport, serving]

theorem exec_statusQuery_ready {s : State} {p : Port} (h : s.ready p = true) :
    exec (.statusQuery p) s =
      .next (answeredOk p 0x01 (statusReport p s) (setPort p { s.port.ports.get p with overflow := false } s)) := by
  obtain ⟨-, empty, -, -, -⟩ := (ready_iff s p).mp h
  have answer := request_answers (r := .statusQuery) (payload := []) h rfl (.inl rfl) (by decide)
    (by simp [heldCode, Request.code]) (serveStatusQuery_eq p _) rfl
  rw [install_overflow_serving _ false empty, statusReport_serving] at answer
  exact congrArg Host.Outcome.next answer

end Sys2Proof.Machine

section
open Sys2Proof Sys2Proof.Machine

/-- Settles O9: the three answers of Profile Field Read by bank and field, and the settings as the table that the
model's lookup agrees with (`settingOf_eq_settings`). -/
theorem fieldAndSettingReadsReportValues : Obligations.FieldAndSettingReadsReportValues := by
  intro p bank field id s ready
  refine ⟨fun beyond => ?bank, fun known beyond => ?field, fun b f lawful known => ?value, fun beyond => ?id,
    fun v known => ?setting⟩
  case bank => exact exec_profileFieldRead_ready ready (serveProfileFieldRead_of_bank beyond field _)
  case field => exact exec_profileFieldRead_ready ready (serveProfileFieldRead_of_field known beyond _)
  case value => exact exec_profileFieldRead_ready ready (serveProfileFieldRead_of_known lawful known _)
  case id => exact exec_settingRead_ready ready (serveSettingRead_of_beyond beyond _)
  case setting => exact exec_settingRead_ready ready (serveSettingRead_of_known known)

/-- Settles O3: the service reports `statusReport` and clears the flag of its port (`exec_statusQuery_ready`); the flags
byte is written out bit by bit (`statusFlags_eq`). -/
theorem statusQueryReportsAndClearsOverflow : Obligations.StatusQueryReportsAndClearsOverflow := by
  intro p s ready port flags
  rw [exec_statusQuery_ready ready, statusReport, statusFlags_eq]
  rfl

end

/-! PROOFS. The outcome log (R21, R189, R192): which operations append an entry, and O59. -/

namespace Sys2Proof.Machine

/-! ### What the log's order rests on -/

/-- The run numbers of the entries, the interrupted-run record and the next run number: all that the order of the log says
of a state that no reset holds. -/
def State.logView (s : State) : List OutcomeEntry × Option OutcomeEntry × Nat :=
  (s.log.entries, s.log.interrupted, s.run.nextRun)

theorem logView_congr {s t : State} (run : t.run = s.run) (log : t.log = s.log) : t.logView = s.logView := by
  simp [State.logView, run, log]

@[simp] theorem shed_logView (p : Profile) (s : State) : (shed p s).logView = s.logView := by
  simp [State.logView, shed_log]

@[simp] theorem computeBudget_logView (p : Profile) (s : State) : (computeBudget p s).logView = s.logView := by
  unfold computeBudget
  dsimp only
  split
  · exact shed_logView _ _
  · rfl

@[simp] theorem reexamine_logView (p : Profile) (s : State) : (reexamine p s).logView = s.logView := by
  unfold reexamine
  dsimp only
  split <;> exact computeBudget_logView _ _

@[simp] theorem startGeneration_logView (o : Origin) (s : State) : (startGeneration o s).logView = s.logView := by
  cases o <;> rfl

@[simp] theorem scheduleCheck_logView (s : State) : (scheduleCheck s).logView = s.logView := by
  unfold scheduleCheck
  split
  · dsimp only
    have checked := reexamine_logView s.activeProfile s
    split
    · rw [startGeneration_logView]
      simpa [State.logView] using checked
    · simpa [State.logView] using checked
  all_goals rfl

@[simp] theorem suspend_logView (s : State) : (suspend s).logView = s.logView := by
  simp [suspend]
  simp [State.logView]

@[simp] theorem replan_logView (s : State) : (replan s).logView = s.logView := by
  unfold replan
  split <;> simp

@[simp] theorem enterIdle_logView (s : State) : (enterIdle s).logView = s.logView := by
  simp [State.logView, enterIdle]

@[simp] theorem reload_logView (s : State) : (reload s).logView = s.logView := by
  rw [reload, scheduleCheck_logView]
  rfl

/-- A run end puts the run's entry at the head and moves on to the next run number (R21, R189). -/
theorem endRun_logView (cause : EndCause) (s : State) :
    (endRun cause s).logView =
      ((s.takeEntry cause :: s.log.entries).take 8, s.log.interrupted, nextRunAfter s.run.nextRun) := by
  rw [endRun_eq]
  rfl

/-! ### The moves of the log -/

/-- What an event that is no reset does to the log: nothing, or the append of the run in progress. -/
inductive LogMove (s t : State) : Prop where
  | kept (same : t.logView = s.logView)
  | appended (e : OutcomeEntry) (number : e.run = s.run.nextRun)
    (view : t.logView = ((e :: s.log.entries).take 8, s.log.interrupted, nextRunAfter s.run.nextRun))

theorem LogMove.endRun (cause : EndCause) (s : State) : LogMove s (endRun cause s) :=
  .appended (s.takeEntry cause) rfl (endRun_logView cause s)

theorem LogMove.congr {s s' t t' : State} (move : LogMove s t) (start : s'.logView = s.logView)
    (stop : t'.logView = t.logView) : LogMove s' t' := by
  obtain ⟨entries, interrupted, next⟩ : s'.log.entries = s.log.entries ∧ s'.log.interrupted = s.log.interrupted ∧
      s'.run.nextRun = s.run.nextRun := by simpa [State.logView] using start
  cases move with
  | kept same => exact .kept (by rw [stop, same, start])
  | appended e number view =>
    exact .appended e (number.trans next.symm) (by rw [stop, view, entries, interrupted, next])

theorem nextRunAfter_range (n : Nat) : 1 ≤ nextRunAfter n ∧ nextRunAfter n ≤ 65535 := by
  unfold nextRunAfter
  split <;> omega

theorem numbersLeadTo_take {next : Nat} {entries : List OutcomeEntry} (h : numbersLeadTo next entries) (k : Nat) :
    numbersLeadTo next (entries.take k) := by
  induction entries generalizing next k with
  | nil => simpa using h
  | cons e rest ih =>
    cases k with
    | zero => trivial
    | succ k =>
      obtain ⟨leads, low, high, further⟩ := h
      exact ⟨leads, low, high, ih further k⟩

/-- Outside a reset there is no interrupted-run record, and the order of the log is that of its numbers. -/
theorem logInOrder_iff_of_awake {s : State} (awake : s.resetting = none) :
    s.logInOrder ↔ s.log.entries.length ≤ 8 ∧ 1 ≤ s.run.nextRun ∧ s.run.nextRun ≤ 65535 ∧
      numbersLeadTo s.run.nextRun s.log.entries ∧ s.log.interrupted = none := by
  unfold State.logInOrder
  constructor
  · rintro ⟨length, low, high, numbers, record, -⟩
    refine ⟨length, low, high, numbers, Option.eq_none_iff_forall_ne_some.mpr fun e he => ?_⟩
    simpa [awake] using (record e he).2
  · rintro ⟨length, low, high, numbers, none⟩
    exact ⟨length, low, high, numbers, by simp [none], by simp [awake]⟩

theorem logInOrder_append {s : State} {e : OutcomeEntry} (h : s.logInOrder) (number : e.run = s.run.nextRun) :
    ((e :: s.log.entries).take 8).length ≤ 8 ∧ numbersLeadTo (nextRunAfter s.run.nextRun) ((e :: s.log.entries).take 8) := by
  obtain ⟨-, low, high, numbers, -⟩ := h
  refine ⟨by simp, numbersLeadTo_take ?_ 8⟩
  exact ⟨by rw [number], number ▸ low, number ▸ high, number ▸ numbers⟩

/-- A move of the log outside a reset keeps its order. -/
theorem LogMove.inOrder {s t : State} (move : LogMove s t) (awake : s.resetting = none) (still : t.resetting = none)
    (h : s.logInOrder) : t.logInOrder := by
  rw [logInOrder_iff_of_awake still]
  cases move with
  | kept same =>
    obtain ⟨entries, interrupted, next⟩ : t.log.entries = s.log.entries ∧ t.log.interrupted = s.log.interrupted ∧
        t.run.nextRun = s.run.nextRun := by simpa [State.logView] using same
    rw [entries, interrupted, next]
    exact (logInOrder_iff_of_awake awake).mp h
  | appended e number view =>
    obtain ⟨entries, interrupted, next⟩ : t.log.entries = (e :: s.log.entries).take 8 ∧
        t.log.interrupted = s.log.interrupted ∧ t.run.nextRun = nextRunAfter s.run.nextRun := by
      simpa [State.logView] using view
    obtain ⟨length, numbers⟩ := logInOrder_append h number
    obtain ⟨-, -, -, -, record⟩ := (logInOrder_iff_of_awake awake).mp h
    rw [entries, interrupted, next]
    exact ⟨length, (nextRunAfter_range _).1, (nextRunAfter_range _).2, numbers, record⟩

/-! ### The services -/

theorem abortRun_logMove (s : State) : LogMove s (abortRun s) := by
  unfold abortRun
  split
  · exact (LogMove.endRun .trackLost s).congr rfl (enterIdle_logView _)
  · exact .kept rfl

theorem loseTrack_logMove (s : State) : LogMove s (loseTrack s) := by
  unfold loseTrack
  dsimp only
  split
  · refine (abortRun_logMove _).congr ?_ rfl
    rfl
  · exact .kept rfl

/-- A judged report that does not lose the track changes the tracker alone, with an event it may raise (R129 to R131). -/
theorem judge_eq_loseTrack_or (d : Nat) (s : State) :
    (s.track.tracker = .onTrack ∧ judge d s = loseTrack s) ∨
      ∃ t r, (s.track.tracker = .idle → t = s.track) ∧ judge d s = { s with track := t, router := r } := by
  unfold judge
  dsimp only
  split
  · next acq1 =>
    right
    split
    · split <;> exact ⟨_, _, by simp [acq1], rfl⟩
    · exact ⟨_, _, by simp [acq1], rfl⟩
  · next acq2 =>
    right
    split
    · split <;> exact ⟨_, _, by simp [acq2], rfl⟩
    · exact ⟨_, _, by simp [acq2], rfl⟩
  · next following =>
    split
    · exact .inr ⟨_, _, fun _ => rfl, rfl⟩
    · exact .inl ⟨following, rfl⟩
  · exact .inr ⟨_, _, fun _ => rfl, rfl⟩
  · exact .inr ⟨_, _, fun _ => rfl, rfl⟩

theorem judge_logMove (d : Nat) (s : State) : LogMove s (judge d s) := by
  obtain ⟨-, lost⟩ | ⟨t, r, -, kept⟩ := judge_eq_loseTrack_or d s
  · rw [lost]; exact loseTrack_logMove s
  · rw [kept]; exact .kept rfl

theorem trackReport_logMove (tCab : Option Int) (doorOpen : Bool) (s : State) :
    LogMove s (trackReport tCab doorOpen s) := by
  have released : (releaseDoor s).logView = s.logView := logView_congr (by simp) (by simp)
  unfold trackReport
  split
  · exact .kept (logView_congr (by simp) (by simp))
  · split
    · exact .kept released
    · unfold judgeReport
      split
      · exact .kept released
      · exact (judge_logMove _ _).congr released.symm rfl

theorem sensorArrival_logMove (tCab tOut tPack : Option Int) (doorOpen : Bool) (s : State) :
    LogMove s (sensorArrival tCab tOut tPack doorOpen s) := by
  refine (trackReport_logMove tCab doorOpen _).congr (logView_congr ?_ ?_) rfl
  · split <;> simp
  · split <;> simp

theorem serveSensorReport_logMove (a b c : U16) (d : Byte) (s : State) : LogMove s (serveSensorReport a b c d s).1 := by
  unfold serveSensorReport
  split
  · exact .kept rfl
  · exact sensorArrival_logMove _ _ _ _ s

theorem serveCancel_logMove (s : State) : LogMove s (serveCancel s).1 := by
  unfold serveCancel
  split
  case h_2 => exact .kept (enterIdle_logView _)
  case h_4 => exact (LogMove.endRun .cancelled s).congr rfl (enterIdle_logView _)
  case h_5 => exact (LogMove.endRun .cancelled s).congr rfl (enterIdle_logView _)
  all_goals exact .kept rfl

theorem envelopeArrival_logView (e : Envelope) (s : State) : (envelopeArrival e s).logView = s.logView := by
  unfold envelopeArrival
  dsimp only
  split
  · exact computeBudget_logView _ _
  · exact computeBudget_logView _ _
  · rfl

theorem departureArrival_logView (v : Nat) (u : DepartureUnit) (m : DepartureMode) (q : Nat) (s : State) :
    (departureArrival v u m q s).logView = s.logView := by
  unfold departureArrival
  split
  · exact scheduleCheck_logView _
  · exact scheduleCheck_logView _
  · exact replan_logView _
  · exact replan_logView _
  · rfl

theorem bankArrival_logView (b : Fin 4) (s : State) : (bankArrival b s).logView = s.logView := by
  unfold bankArrival
  split
  · exact computeBudget_logView _ _
  · rw [scheduleCheck_logView]; exact computeBudget_logView _ _
  · exact replan_logView _
  · exact replan_logView _
  · rfl

theorem writeField_logView (b : Fin 4) (f : Field) (v : Int) (s : State) : (writeField b f v s).logView = s.logView := by
  unfold writeField
  dsimp only
  split
  · exact computeBudget_logView _ _
  · rfl

theorem serveEnvelope_logView (l : Byte) (g k h : U16) (s : State) : (serveEnvelope l g k h s).1.logView = s.logView := by
  unfold serveEnvelope
  split
  · rfl
  · exact envelopeArrival_logView _ s

theorem serveReplan_logView (s : State) : (serveReplan s).1.logView = s.logView := by
  unfold serveReplan
  split
  · rfl
  · exact scheduleCheck_logView s
  · rfl
  · exact replan_logView s
  · exact replan_logView s

theorem serveDepartureSet_logView (v : U16) (u m : Byte) (q : U16) (s : State) :
    (serveDepartureSet v u m q s).1.logView = s.logView := by
  unfold serveDepartureSet
  split
  · split
    · rfl
    · exact departureArrival_logView _ _ _ _ s
  · rfl

theorem serveSelectBank_logView (b : Byte) (s : State) : (serveSelectBank b s).1.logView = s.logView := by
  unfold serveSelectBank
  split
  · rfl
  · exact bankArrival_logView _ s

theorem serveProfileFieldWrite_logView (b f : Byte) (v : U16) (s : State) :
    (serveProfileFieldWrite b f v s).1.logView = s.logView := by
  unfold serveProfileFieldWrite
  split
  · rfl
  · split
    · rfl
    · exact writeField_logView _ _ _ s

/-- A service appends at most the run in progress; only a Sensor Report and a Cancel do. -/
theorem serveRequest_logMove (p : Port) (r : Request) (b : List Byte) (s : State) :
    LogMove s (serveRequest p r b s).1 := by
  cases r with
  | sensorReport => exact serveSensorReport_logMove _ _ _ _ s
  | cancel => exact serveCancel_logMove s
  | envelope => exact .kept (serveEnvelope_logView _ _ _ _ s)
  | replan => exact .kept (serveReplan_logView s)
  | departureSet => exact .kept (serveDepartureSet_logView _ _ _ _ s)
  | selectBank => exact .kept (serveSelectBank_logView _ s)
  | profileFieldWrite => exact .kept (serveProfileFieldWrite_logView _ _ _ s)
  | slotLengthSet => exact .kept (scheduleCheck_logView _)
  | resetCauseClear => exact .kept rfl
  | _ => exact .kept (logView_congr (by simp [serveRequest]) (by simp [serveRequest]))

/-! ### The time base and the resets -/

theorem expire_logMove (s : State) : LogMove s (expire s) := by
  have ended : LogMove s (if s.inRun then endRun .departed s else s) := by
    split
    · exact LogMove.endRun .departed s
    · exact .kept rfl
  unfold expire
  dsimp only
  split
  · exact ended.congr rfl (enterIdle_logView _)
  · exact ended.congr rfl (reload_logView _)

theorem completePlan_logView (c : Capture) (s : State) : (completePlan c s).logView = s.logView := by
  have run : (completePlan c s).run.nextRun = s.run.nextRun := by simp [completePlan, releaseHeld, enterRun]
  have log : ∀ t : State, (reexamine c.build.profile t).log.entries = t.log.entries ∧
      (reexamine c.build.profile t).log.interrupted = t.log.interrupted := fun t => by
    have view := reexamine_logView c.build.profile t
    simp only [State.logView, Prod.mk.injEq] at view
    exact ⟨view.1, view.2.1⟩
  simp [State.logView, run]
  simp [completePlan, log, installPlan]

theorem interruptedBy_run {k : ResetKind} {s : State} (h : s.logInOrder) {e : OutcomeEntry}
    (held : interruptedBy k s = some e) : e.run = s.run.nextRun := by
  obtain ⟨-, -, -, -, record, -⟩ := h
  unfold interruptedBy at held
  split at held
  · split at held
    · cases held; rfl
    · exact (record e held).1
  · cases held

/-- The fall of a reset keeps the log and the next run number, or clears both, and rests the run (R191, R192). -/
theorem fallReset_inOrder (k : ResetKind) (c : ResetCauses) (s : State) (h : s.logInOrder) :
    (fallReset k c s).logInOrder := by
  have number := @interruptedBy_run k s h
  obtain ⟨length, low, high, numbers, -⟩ := h
  cases k with
  | por =>
    have none : (fallReset .por c s).log.interrupted = none := rfl
    exact ⟨Nat.zero_le 8, le_refl 1, (by decide : 1 ≤ 65535), trivial, by simp [none], fun _ => ⟨rfl, rfl⟩⟩
  | pin => exact ⟨length, low, high, numbers, fun e held => ⟨number held, rfl⟩, fun _ => ⟨rfl, rfl⟩⟩
  | soft => exact ⟨length, low, high, numbers, fun e held => ⟨number held, rfl⟩, fun _ => ⟨rfl, rfl⟩⟩

/-- The release of a reset appends the interrupted-run record, which has the next run number (R192). -/
theorem release_inOrder (c : ResetCauses) (x : BitVec 2) (s : State) (h : s.logInOrder) : (release c x s).logInOrder := by
  have append := fun e => logInOrder_append (e := e) h
  obtain ⟨length, low, high, numbers, record, -⟩ := h
  rw [logInOrder_iff_of_awake rfl]
  unfold release appendInterrupted
  dsimp only
  split
  · next none => exact ⟨length, low, high, numbers, none⟩
  · next e held =>
    obtain ⟨short, leads⟩ := append e (record e held).1
    exact ⟨short, (nextRunAfter_range _).1, (nextRunAfter_range _).2, leads, rfl⟩

/-- Every part of a step keeps the order of the log. -/
theorem kept_logInOrder : Kept State.logInOrder where
  port _ _ h := h
  bus _ _ h := h
  queue _ _ h := h
  hold _ _ h := h
  overflow _ _ h := h
  serve p r b s awake h :=
    (serveRequest_logMove p r b s).inOrder awake (by rw [serveRequest_resetting, awake]) h
  fall k c s h := fallReset_inOrder k c s h
  cause c d s resetting h := by
    obtain ⟨length, low, high, numbers, record, rest⟩ := h
    exact ⟨length, low, high, numbers, fun e held => ⟨(record e held).1, rfl⟩, fun _ => rest (by simp [resetting])⟩
  release c x s _ h := release_inOrder c x s h
  countTime s awake h := (LogMove.kept rfl).inOrder awake awake h
  countGrants s awake h := by
    refine (LogMove.kept ?_).inOrder awake awake h
    rfl
  tickEnd s awake h := (LogMove.kept rfl).inOrder awake awake h
  sensor s awake _ h := by
    refine (LogMove.kept ?_).inOrder awake ((sensorExpiry_resetting s).trans awake) h
    unfold sensorExpiry
    dsimp only
    split <;> rfl
  lapse s awake _ h := by
    refine (LogMove.kept ?_).inOrder awake ((holdExpiry_resetting s).trans awake) h
    unfold holdExpiry
    dsimp only
    split
    · exact computeBudget_logView _ _
    · rfl
    · rfl
  timeout s awake _ h := by
    refine (LogMove.kept (logView_congr ?_ ?_)).inOrder awake ((startTimeouts_resetting s).trans awake) h
    · exact startTimeouts_run s
    · simp [startTimeouts]
  cooldown s awake _ h := (LogMove.kept rfl).inOrder awake awake h
  phase s awake _ h := (LogMove.kept rfl : LogMove s (changePhase s)).inOrder awake awake h
  slot s awake _ h := by
    refine (LogMove.kept (logView_congr (startSlot_run s) ?_)).inOrder awake ((startSlot_resetting s).trans awake) h
    unfold startSlot
    split <;> simp
  check s awake _ h :=
    (LogMove.kept (scheduleCheck_logView s)).inOrder awake ((scheduleCheck_resetting s).trans awake) h
  expire s awake _ h := (expire_logMove s).inOrder awake ((expire_resetting s).trans awake) h
  complete c s awake _ _ _ h :=
    (LogMove.kept (completePlan_logView c s)).inOrder awake ((completePlan_resetting c s).trans awake) h

end Sys2Proof.Machine

section
open Sys2Proof Sys2Proof.Machine

/-- Settles O59: every part of a step keeps the order (`kept_logInOrder`), so every step does (`Kept.step`). -/
theorem everyStepKeepsLog : Obligations.EveryStepKeepsLog :=
  fun _ _ taken inOrder => kept_logInOrder.step inOrder taken

end

/-! PROOFS. The tables that every step keeps (05, 5.3; 06, 6.3; 07, 7.1; 08, 8.2): what each operation does to the envelope
monitor's state, to the tracker, to the banks and to the pending sets, and O58. -/

namespace Sys2Proof.Machine

/-! ### The four tables together -/

/-- An operation from `s` to `t` keeps each of the four tables. -/
structure KeepsTables (s t : State) : Prop where
  envelope : s.envelopeTable → t.envelopeTable
  tracker : s.trackerTable → t.trackerTable
  banks : s.banksInRange → t.banksInRange
  masks : s.pendingMasked → t.pendingMasked

theorem KeepsTables.trans {s t u : State} (first : KeepsTables s t) (second : KeepsTables t u) : KeepsTables s u :=
  ⟨second.envelope ∘ first.envelope, second.tracker ∘ first.tracker, second.banks ∘ first.banks,
    second.masks ∘ first.masks⟩

/-- What the table of the envelope states speaks of (05, 5.3). -/
def PowerBlock.monitor (b : PowerBlock) : EnvelopeState × Option Envelope × Option Nat × Source × Bool :=
  (b.state, b.latest, b.holdTimer, b.source, b.envLost)

theorem envelopeTable_congr {s t : State} (same : t.power.monitor = s.power.monitor) :
    s.envelopeTable → t.envelopeTable := by
  simp only [PowerBlock.monitor, Prod.mk.injEq] at same
  obtain ⟨state, latest, timer, source, lost⟩ := same
  simp only [State.envelopeTable, state, latest, timer, source, lost]
  exact id

theorem trackerTable_congr {s t : State} (same : t.track = s.track) : s.trackerTable → t.trackerTable := by
  simp only [State.trackerTable, same]
  exact id

theorem banksInRange_congr {s t : State} (same : t.store.banks = s.store.banks) : s.banksInRange → t.banksInRange := by
  simp only [State.banksInRange, same]
  exact id

/-- Kinds that are raised reach a pending set through its mask alone (R153, R154). -/
theorem pendingMasked_recorded {s t : State} (ks : List EventKind) (router : t.router = recorded ks s.router) :
    s.pendingMasked → t.pendingMasked := by
  intro masked p
  obtain ⟨within, reserved⟩ := masked p
  rw [router]
  refine ⟨?_, reserved⟩
  simp only [recorded, PerPort.get_ofFn]
  ext i
  have bit := congrArg (·.getLsbD i) within
  simp only [BitVec.getLsbD_and] at bit
  simp only [← BitVec.getLsbD_eq_getElem]
  grind

/-- Raising a kind at one port alone keeps the pending sets within their masks. -/
theorem pendingMasked_raiseAt (q : Port) (k : EventKind) (s : State) (masked : s.pendingMasked) :
    (raiseAt q k s).pendingMasked := by
  intro p
  have grown := pendingMasked_recorded [k] rfl (s := s) (t := { s with router := recorded [k] s.router }) masked p
  by_cases own : p = q
  · subst own
    simpa [raiseAt, recorded, EventKind.setOf] using grown
  · simpa [raiseAt, own] using masked p

/-- An operation that leaves the monitor, the tracker and the banks alone and only raises kinds. -/
theorem KeepsTables.raises {s t : State} (ks : List EventKind) (power : t.power.monitor = s.power.monitor)
    (track : t.track = s.track) (store : t.store = s.store) (router : t.router = recorded ks s.router) :
    KeepsTables s t :=
  ⟨envelopeTable_congr power, trackerTable_congr track, banksInRange_congr (by rw [store]),
    pendingMasked_recorded ks router⟩

/-- An operation that leaves the monitor, the tracker, the banks and the router alone. -/
theorem KeepsTables.same {s t : State} (power : t.power.monitor = s.power.monitor) (track : t.track = s.track)
    (store : t.store = s.store) (router : t.router = s.router) : KeepsTables s t :=
  .raises [] power track store (by rw [router, recorded_nil])

/-- An operation that writes the tracker, and only raises kinds beside it. -/
theorem KeepsTables.tracks {s t : State} (ks : List EventKind) (track : s.trackerTable → t.trackerTable)
    (power : t.power = s.power) (store : t.store = s.store) (router : t.router = recorded ks s.router) :
    KeepsTables s t :=
  ⟨envelopeTable_congr (by rw [power]), track, banksInRange_congr (by rw [store]), pendingMasked_recorded ks router⟩

/-! ### The shared operations -/

theorem raise_keepsTables (k : EventKind) (s : State) : KeepsTables s (raise k s) :=
  .raises [k] rfl rfl rfl (raise_router k s)

theorem issueFrom_keepsTables (r : LoadRecord) (h : Handed) (s : State) : KeepsTables s (issueFrom r h s) :=
  .raises [.grantChanged] rfl rfl rfl (issueFrom_router r h s)

theorem shed_keepsTables (p : Profile) (s : State) : KeepsTables s (shed p s) :=
  .raises [.grantChanged, .shed] (by rw [shed_power]) (shed_track p s) (shed_store p s) (shed_router p s)

theorem computeBudget_keepsTables (p : Profile) (s : State) : KeepsTables s (computeBudget p s) := by
  unfold computeBudget
  dsimp only
  split
  · refine KeepsTables.trans ?_ (shed_keepsTables p _)
    exact .same rfl rfl rfl rfl
  · exact .same rfl rfl rfl rfl

/-- The return of a lost monitor to LIVE finds its envelope and its hold timer (R106). -/
theorem reexamine_keepsTables (p : Profile) (s : State) : KeepsTables s (reexamine p s) := by
  unfold reexamine
  dsimp only
  split
  · next returns =>
    refine KeepsTables.trans ?_ (computeBudget_keepsTables p _)
    refine ⟨fun table => ?_, id, id, id⟩
    obtain ⟨lost, runs⟩ := returns
    simp only [State.envelopeTable, lost] at table
    refine ⟨table.1, ?_, rfl, rfl⟩
    cases timer : s.power.holdTimer with
    | none => simp [timer, timerRuns] at runs
    | some n => rfl
  · exact computeBudget_keepsTables p s

theorem setReadiness_keepsTables (c : Readiness) (m : Int) (s : State) : KeepsTables s (setReadiness c m s) := by
  have written : KeepsTables s { s with track := { s.track with readiness := c, margin := m } } :=
    .tracks [] id rfl rfl (recorded_nil _).symm
  unfold setReadiness
  dsimp only
  split
  · exact written
  · exact written.trans (raise_keepsTables _ _)

theorem forecast_keepsTables (p : Profile) (t : Int) (h : Option Nat) (s : State) :
    KeepsTables s (forecast p t h s) := setReadiness_keepsTables _ _ _

theorem closeSlot_keepsTables (s : State) : KeepsTables s (closeSlot s) :=
  .raises _ (by rw [closeSlot_power]) (closeSlot_track s) (closeSlot_store s) (closeSlot_router s)

theorem allocateSlot_keepsTables (n : Nat) (s : State) : KeepsTables s (allocateSlot n s) := by
  have router : (allocateSlot n s).router = s.router ∨ (allocateSlot n s).router = recorded [.grantChanged] s.router := by
    unfold allocateSlot
    split
    · exact .inl rfl
    · split
      · exact .inl rfl
      · exact .inr (issueFrom_router _ _ _)
  rcases router with quiet | issued
  · exact .same (by simp) (by simp) (by simp) quiet
  · exact .raises _ (by simp) (by simp) (by simp) issued

theorem trackerIdle_keepsTables (s : State) : KeepsTables s (trackerIdle s) := by
  refine .tracks [] (fun table => ?_) rfl rfl (recorded_nil _).symm
  obtain ⟨-, -, tracks, -, -, loss⟩ := table
  exact ⟨by simp [trackerIdle], by simp [trackerIdle], tracks, by simp [trackerIdle], Nat.zero_le _, loss⟩

theorem declareSensorLoss_keepsTables (s : State) : KeepsTables s (declareSensorLoss s) := by
  refine .tracks [.sensorLost] (fun table => ?_) rfl rfl (raise_router _ _)
  obtain ⟨-, -, tracks, -, count, loss⟩ := table
  exact ⟨by simp [declareSensorLoss], by simp [declareSensorLoss], tracks, by simp [declareSensorLoss], count, loss⟩

theorem restartTracking_keepsTables (h : Heating) (s : State) : KeepsTables s (restartTracking h s) := by
  unfold restartTracking
  dsimp only
  have restarted : KeepsTables s { s with track := { s.track with
      sensorLost := false, openLoop := false, track := false, tracks := false, lossCount := 0,
      tracker := if s.track.doorOpen then .held else .acq1, holdDoor := s.track.doorOpen, holdSensor := false,
      acquisition := 0, heating := h } } := by
    refine .tracks [] (fun _ => ?_) rfl rfl (recorded_nil _).symm
    cases door : s.track.doorOpen <;> simp [State.trackerTable]
  split
  · exact restarted
  · exact restarted.trans (declareSensorLoss_keepsTables _)

theorem startGeneration_keepsTables (o : Origin) (s : State) : KeepsTables s (startGeneration o s) :=
  .same rfl rfl rfl rfl

theorem scheduleCheck_keepsTables (s : State) : KeepsTables s (scheduleCheck s) := by
  unfold scheduleCheck
  split
  · dsimp only
    have forecasted := fun t h => (reexamine_keepsTables s.activeProfile s).trans
      (forecast_keepsTables s.activeProfile t h _)
    split
    · exact (forecasted _ _).trans (.same rfl rfl rfl rfl)
    · exact (forecasted _ _).trans (.same rfl rfl rfl rfl)
  all_goals exact .same rfl rfl rfl rfl

/-- The run's rest: the open slot closed, the grants at 0 and the tracker idle. -/
theorem rest_keepsTables (s : State) : KeepsTables s (trackerIdle (issueZero (closeSlot s))) :=
  (closeSlot_keepsTables s).trans ((issueFrom_keepsTables _ _ _).trans (trackerIdle_keepsTables _))

theorem suspend_keepsTables (s : State) : KeepsTables s (suspend s) := by
  unfold suspend
  dsimp only
  refine KeepsTables.trans ?_ (scheduleCheck_keepsTables _)
  refine KeepsTables.trans ?_ (computeBudget_keepsTables _ _)
  exact (rest_keepsTables s).trans (.same rfl rfl rfl rfl)

theorem replan_keepsTables (s : State) : KeepsTables s (replan s) := by
  unfold replan
  split
  · exact suspend_keepsTables s
  · exact startGeneration_keepsTables _ s

theorem enterIdle_keepsTables (s : State) : KeepsTables s (enterIdle s) := by
  refine KeepsTables.trans ?_ (setReadiness_keepsTables _ _ _)
  exact .same rfl rfl rfl rfl

theorem reload_keepsTables (s : State) : KeepsTables s (reload s) := by
  refine KeepsTables.trans ?_ (scheduleCheck_keepsTables _)
  exact .same rfl rfl rfl rfl

theorem endRun_keepsTables (cause : EndCause) (s : State) : KeepsTables s (endRun cause s) := by
  rw [endRun_eq]
  exact ⟨envelopeTable_congr rfl, (trackerIdle_keepsTables s).tracker, id, pendingMasked_recorded _ rfl⟩

theorem expire_keepsTables (s : State) : KeepsTables s (expire s) := by
  have ended : KeepsTables s (if s.inRun then endRun .departed s else s) := by
    split
    · exact endRun_keepsTables _ s
    · exact .same rfl rfl rfl rfl
  unfold expire
  dsimp only
  split
  · exact ended.trans (enterIdle_keepsTables _)
  · exact ended.trans (reload_keepsTables _)

theorem allocateCurrent_keepsTables (r : PlanRecord) (s : State) : KeepsTables s (allocateCurrent r s) := by
  unfold allocateCurrent
  split
  · exact allocateSlot_keepsTables _ s
  · exact .same rfl rfl rfl rfl

theorem raiseDone_keepsTables (o : Option Origin) (s : State) : KeepsTables s (raiseDone o s) := by
  unfold raiseDone
  dsimp only
  split
  · exact (raise_keepsTables _ _).trans (raise_keepsTables _ _)
  · exact raise_keepsTables _ _

theorem completePlan_keepsTables (c : Capture) (s : State) : KeepsTables s (completePlan c s) := by
  unfold completePlan
  dsimp only
  refine KeepsTables.trans ?_ (.same (s := raiseDone _ _) rfl rfl rfl rfl)
  refine KeepsTables.trans ?_ (raiseDone_keepsTables _ _)
  refine KeepsTables.trans ?_ (forecast_keepsTables _ _ _ _)
  refine KeepsTables.trans ?_ (allocateCurrent_keepsTables _ _)
  refine KeepsTables.trans ?_ (.same (s := reexamine _ _) rfl rfl rfl rfl)
  refine KeepsTables.trans ?_ (reexamine_keepsTables _ _)
  refine KeepsTables.trans ?_ (restartTracking_keepsTables _ _)
  exact .same rfl rfl rfl rfl

/-! ### Sensor Report -/

theorem storeReport_keepsTables (a b c : Option Int) (d : Bool) (s : State) :
    KeepsTables s (storeReport a b c d s) := .tracks [] id rfl rfl (recorded_nil _).symm

theorem cabinReported_keepsTables (s : State) : KeepsTables s (cabinReported s) :=
  .tracks [] id rfl rfl (recorded_nil _).symm

/-- The return from open loop takes the hold cause SENSOR away, and acquisition begins where no cause is left (R125). -/
theorem openLoopReturn_keepsTables (s : State) : KeepsTables s (openLoopReturn s) := by
  unfold openLoopReturn
  split
  · refine .tracks [] (fun table => ?_) rfl rfl (recorded_nil _).symm
    obtain ⟨on, causes, tracks, loop, count, loss⟩ := table
    dsimp only
    split
    · next resumes =>
      simp only [Bool.and_eq_true, decide_eq_true_eq, Bool.not_eq_true'] at resumes
      obtain ⟨held, noDoor⟩ := resumes
      exact ⟨by simpa [TrackBlock.restart, held] using on, by simp [TrackBlock.restart, noDoor], tracks,
        by simp [TrackBlock.restart], Nat.zero_le _, loss⟩
    · next stays =>
      refine ⟨on, ⟨fun cause => causes.mp (.inl (by simpa using cause)), fun held => ?_⟩, tracks, by simp, count, loss⟩
      simpa [show s.track.tracker = .held from held] using stays
  · exact .same rfl rfl rfl rfl

theorem loseTrack_keepsTables (s : State) (following : s.track.tracker = .onTrack) : KeepsTables s (loseTrack s) := by
  have lost : KeepsTables s (raise .trackLost { s with track := { s.track.restart with
      track := false, tracks := false, lossCount := bump 255 s.track.lossCount } }) := by
    refine .tracks [.trackLost] (fun table => ?_) rfl rfl (raise_router _ _)
    obtain ⟨-, causes, -, loop, -, -⟩ := table
    have none : s.track.holdDoor = false ∧ s.track.holdSensor = false := by
      simpa [following] using mt causes.mp
    refine ⟨by simp [TrackBlock.restart], by simp [TrackBlock.restart, none], by simp, loop, Nat.zero_le _, ?_⟩
    rw [raise_track, bump_eq_min]
    exact Nat.min_le_left _ _
  unfold loseTrack
  dsimp only
  split
  · unfold abortRun
    split
    · exact lost.trans ((endRun_keepsTables _ _).trans (enterIdle_keepsTables _))
    · exact lost
  · exact lost

/-- A judged report moves the acquisition within its counts, and sets TRACK with ON_TRACK alone (R129 to R131). -/
theorem judge_keepsTables (d : Nat) (s : State) : KeepsTables s (judge d s) := by
  have writes : ∀ t, (s.trackerTable → ({ s with track := t } : State).trackerTable) →
      KeepsTables s { s with track := t } := fun t h => .tracks [] h rfl rfl (recorded_nil _).symm
  unfold judge
  dsimp only
  split
  · next acq1 =>
    split
    · split
      · exact writes _ fun ⟨on, causes, tracks, loop, _, loss⟩ => ⟨on, causes, tracks, loop, by dsimp only; omega, loss⟩
      · exact writes _ fun ⟨on, causes, tracks, loop, _, loss⟩ =>
          ⟨by simpa [acq1] using on, by simpa [acq1] using causes, tracks, loop, Nat.zero_le _, loss⟩
    · exact writes _ fun ⟨on, causes, tracks, loop, _, loss⟩ => ⟨on, causes, tracks, loop, Nat.zero_le _, loss⟩
  · next acq2 =>
    split
    · split
      · exact writes _ fun ⟨on, causes, tracks, loop, _, loss⟩ => ⟨on, causes, tracks, loop, by dsimp only; omega, loss⟩
      · refine .tracks [.trackAcquired] (fun ⟨on, causes, tracks, loop, _, loss⟩ => ?_) rfl rfl (raise_router _ _)
        refine ⟨by simp [acquireTrack], by simpa [acquireTrack, acq2] using causes, fun set => ?_, loop, Nat.zero_le _,
          loss⟩
        simp only [acquireTrack, raise_track, Bool.or_eq_true, beq_iff_eq] at set
        exact set.elim tracks id
    · exact writes _ fun ⟨on, causes, tracks, loop, _, loss⟩ =>
        ⟨by simpa [acq2, TrackBlock.restart] using on, by simpa [acq2, TrackBlock.restart] using causes, tracks, loop,
          Nat.zero_le _, loss⟩
  · next following =>
    split
    · exact .same rfl rfl rfl rfl
    · exact loseTrack_keepsTables s following
  · exact .same rfl rfl rfl rfl
  · exact .same rfl rfl rfl rfl

/-- The door puts a tracker that is not at rest in HELD, without TRACK (R132). -/
theorem holdForDoor_keepsTables (s : State) : KeepsTables s (holdForDoor s) := by
  have held : s.trackerTable → ({ s with track := { s.track with
      tracker := .held, holdDoor := true, track := false } } : State).trackerTable :=
    fun ⟨_, _, tracks, loop, count, loss⟩ => ⟨by simp, by simp, tracks, loop, count, loss⟩
  unfold holdForDoor
  split
  · exact .same rfl rfl rfl rfl
  · next already =>
    refine .tracks [] (fun ⟨on, _, tracks, loop, count, loss⟩ => ?_) rfl rfl (recorded_nil _).symm
    exact ⟨on, by simp [already], tracks, loop, count, loss⟩
  all_goals exact .tracks [] held rfl rfl (recorded_nil _).symm

theorem releaseDoor_keepsTables (s : State) : KeepsTables s (releaseDoor s) := by
  unfold releaseDoor
  split
  · next held =>
    refine .tracks [] (fun ⟨on, causes, tracks, loop, count, loss⟩ => ?_) rfl rfl (recorded_nil _).symm
    dsimp only
    split
    · next sensor => exact ⟨on, by simp [sensor, held], tracks, loop, count, loss⟩
    · next free =>
      exact ⟨by simpa [TrackBlock.restart, held] using on, by simpa [TrackBlock.restart] using free, tracks, loop,
        Nat.zero_le _, loss⟩
  all_goals exact .same rfl rfl rfl rfl

theorem trackReport_keepsTables (tCab : Option Int) (doorOpen : Bool) (s : State) :
    KeepsTables s (trackReport tCab doorOpen s) := by
  unfold trackReport
  split
  · exact holdForDoor_keepsTables s
  · split
    · exact releaseDoor_keepsTables s
    · refine (releaseDoor_keepsTables s).trans ?_
      unfold judgeReport
      split
      · exact .same rfl rfl rfl rfl
      · exact judge_keepsTables _ _

theorem serveSensorReport_keepsTables (a b c : U16) (d : Byte) (s : State) :
    KeepsTables s (serveSensorReport a b c d s).1 := by
  unfold serveSensorReport
  split
  · exact .same rfl rfl rfl rfl
  · refine KeepsTables.trans ?_ (trackReport_keepsTables _ _ _)
    have stored := fun x y z w => storeReport_keepsTables x y z w s
    split
    · exact (stored _ _ _ _).trans ((cabinReported_keepsTables _).trans (openLoopReturn_keepsTables _))
    · exact stored _ _ _ _

/-! ### Actuator Status -/

theorem applyRecords_keepsTables (records : PerLoad LoadRecord) (s : State) : KeepsTables s (applyRecords records s) := by
  unfold applyRecords
  dsimp only
  split
  · exact .same rfl rfl rfl rfl
  · refine KeepsTables.trans ?_ (raise_keepsTables _ _)
    refine KeepsTables.trans ?_ (issueFrom_keepsTables _ _ _)
    exact .same rfl rfl rfl rfl

theorem overdrawRemoval_keepsTables (r : LoadRecord) (s : State) : KeepsTables s (overdrawRemoval r s) := by
  have removed : KeepsTables s (match lastGranted s.inForce s.loads.grants with
      | some l => issueFrom r (Handed.nothing.set l (some (0, .shed))) s
      | none => s) := by
    split
    · exact issueFrom_keepsTables _ _ s
    · exact .same rfl rfl rfl rfl
  unfold overdrawRemoval
  dsimp only
  refine KeepsTables.trans ?_ (raise_keepsTables _ _)
  refine removed.trans ?_
  exact .same rfl rfl rfl rfl

theorem takeMeasured_keepsTables (r : LoadRecord) (total : Nat) (matched : Bool) (s : State) :
    KeepsTables s (takeMeasured r total matched s) := by
  unfold takeMeasured
  dsimp only
  split
  · exact .same rfl rfl rfl rfl
  · split
    · split
      · exact .same rfl rfl rfl rfl
      · refine KeepsTables.trans ?_ (overdrawRemoval_keepsTables _ _)
        exact .same rfl rfl rfl rfl
    · exact .same rfl rfl rfl rfl

theorem serveActuatorStatus_keepsTables (q : Byte) (x : PerLoad Byte) (d : PerLoad U16) (s : State) :
    KeepsTables s (serveActuatorStatus q x d s).1 := by
  unfold serveActuatorStatus
  split
  · exact .same rfl rfl rfl rfl
  · refine KeepsTables.trans ?_ (takeMeasured_keepsTables _ _ _ _)
    refine KeepsTables.trans ?_ (applyRecords_keepsTables _ _)
    unfold acknowledge
    split <;> exact .same rfl rfl rfl rfl

/-! ### The requests that raise or issue -/

theorem serveEventQuery_keepsTables (p : Port) (s : State) : KeepsTables s (serveEventQuery p s).1 := by
  refine ⟨id, id, id, fun masked q => ?_⟩
  obtain ⟨within, reserved⟩ := masked q
  refine ⟨?_, reserved⟩
  simp only [serveEventQuery, PerPort.get_set]
  split
  · exact BitVec.zero_and
  · exact within

theorem serveEventMaskSet_keepsTables (p : Port) (mask : U16) (s : State) :
    KeepsTables s (serveEventMaskSet p mask s).1 := by
  cases lawful : mask.getLsbD 15 with
  | true => rw [serveEventMaskSet_of_reserved lawful]; exact .same rfl rfl rfl rfl
  | false =>
    rw [serveEventMaskSet_of_lawful lawful]
    refine ⟨id, id, id, fun masked q => ?_⟩
    simp only [PerPort.get_set]
    split
    · exact ⟨by rw [BitVec.and_assoc, BitVec.and_self], lawful⟩
    · exact masked q

theorem serveInhibitClaim_keepsTables (p : Port) (l a : Byte) (s : State) :
    KeepsTables s (serveInhibitClaim p l a s).1 := by
  have set : ∀ m, KeepsTables s (claimSet p m s) := fun m => by
    unfold claimSet
    dsimp only
    split
    · refine KeepsTables.trans ?_ (issueFrom_keepsTables _ _ _)
      exact .same rfl rfl rfl rfl
    · exact .same rfl rfl rfl rfl
  unfold serveInhibitClaim
  split
  · exact .same rfl rfl rfl rfl
  · split
    · exact .same rfl rfl rfl rfl
    · dsimp only
      split
      · exact set _
      · split <;> exact .same rfl rfl rfl rfl

theorem serveFloorSet_keepsTables (f : Byte) (s : State) : KeepsTables s (serveFloorSet f s).1 := by
  unfold serveFloorSet setFloor
  dsimp only
  split
  · refine KeepsTables.trans ?_ (issueFrom_keepsTables _ _ _)
    exact .same rfl rfl rfl rfl
  · exact .same rfl rfl rfl rfl

theorem serveLoadLimitSet_keepsTables (l : Byte) (v : U16) (s : State) : KeepsTables s (serveLoadLimitSet l v s).1 := by
  unfold serveLoadLimitSet
  split
  · exact .same rfl rfl rfl rfl
  · split
    · dsimp only [setLoadLimit]
      split
      · refine KeepsTables.trans ?_ (issueFrom_keepsTables _ _ _)
        exact .same rfl rfl rfl rfl
      · exact .same rfl rfl rfl rfl
    · exact .same rfl rfl rfl rfl

/-- An arrival outside LOST finds ENV_LOST clear, and leaves the monitor LIVE with its envelope and its timer (R98,
R102). -/
theorem serveEnvelope_keepsTables (l : Byte) (g k h : U16) (s : State) : KeepsTables s (serveEnvelope l g k h s).1 := by
  unfold serveEnvelope
  split
  · exact .same rfl rfl rfl rfl
  · unfold envelopeArrival
    dsimp only
    split
    · next none =>
      refine KeepsTables.trans ?_ (computeBudget_keepsTables _ _)
      refine ⟨fun table => ?_, id, id, id⟩
      simp only [State.envelopeTable, none] at table
      exact ⟨rfl, rfl, rfl, table.2.2.2⟩
    · next live =>
      refine KeepsTables.trans ?_ (computeBudget_keepsTables _ _)
      refine ⟨fun table => ?_, id, id, id⟩
      simp only [State.envelopeTable, live] at table
      exact ⟨rfl, rfl, rfl, table.2.2.2⟩
    · next lost =>
      refine ⟨fun table => ?_, id, id, id⟩
      simp only [State.envelopeTable, lost] at table ⊢
      exact ⟨rfl, table.2⟩

/-! ### The requests that plan, and the Profile Store -/

theorem serveDepartureSet_keepsTables (v : U16) (u m : Byte) (q : U16) (s : State) :
    KeepsTables s (serveDepartureSet v u m q s).1 := by
  unfold serveDepartureSet
  split
  · split
    · exact .same rfl rfl rfl rfl
    · unfold departureArrival
      dsimp only
      split
      · refine KeepsTables.trans ?_ (scheduleCheck_keepsTables _)
        exact .same rfl rfl rfl rfl
      · refine KeepsTables.trans ?_ (scheduleCheck_keepsTables _)
        exact .same rfl rfl rfl rfl
      · refine KeepsTables.trans ?_ (replan_keepsTables _)
        exact .same rfl rfl rfl rfl
      · refine KeepsTables.trans ?_ (replan_keepsTables _)
        exact .same rfl rfl rfl rfl
      · exact .same rfl rfl rfl rfl
  · exact .same rfl rfl rfl rfl

theorem serveReplan_keepsTables (s : State) : KeepsTables s (serveReplan s).1 := by
  unfold serveReplan
  split
  · exact .same rfl rfl rfl rfl
  · exact scheduleCheck_keepsTables s
  · exact .same rfl rfl rfl rfl
  · exact replan_keepsTables s
  · exact replan_keepsTables s

theorem serveCancel_keepsTables (s : State) : KeepsTables s (serveCancel s).1 := by
  unfold serveCancel
  split
  · exact .same rfl rfl rfl rfl
  · refine KeepsTables.trans ?_ (enterIdle_keepsTables _)
    exact .same rfl rfl rfl rfl
  · exact .same rfl rfl rfl rfl
  · exact (endRun_keepsTables _ s).trans (enterIdle_keepsTables _)
  · exact (endRun_keepsTables _ s).trans (enterIdle_keepsTables _)

/-- Making a bank the active one leaves every bank as it is. -/
theorem activate_keepsTables (b : Fin 4) (s : State) : KeepsTables s (activate b s) :=
  ⟨id, id, id, id⟩

theorem serveSelectBank_keepsTables (b : Byte) (s : State) : KeepsTables s (serveSelectBank b s).1 := by
  unfold serveSelectBank
  split
  · exact .same rfl rfl rfl rfl
  · next n _ =>
    have chosen := activate_keepsTables n s
    unfold bankArrival
    dsimp only
    split
    · exact chosen.trans (computeBudget_keepsTables _ _)
    · exact chosen.trans ((computeBudget_keepsTables _ _).trans (scheduleCheck_keepsTables _))
    · exact chosen.trans (replan_keepsTables _)
    · exact chosen.trans (replan_keepsTables _)
    · exact .same rfl rfl rfl rfl

/-- Every field has its place in the list of ids (07, 7.1). -/
theorem Field.mem_all (f : Field) : f ∈ Field.all := by
  cases f <;> decide

theorem Field.range_le (f : Field) : f.range.1 ≤ f.range.2 := by
  cases f <;> decide

theorem Field.range_nonneg {f : Field} (unsigned : f.signed = false) : 0 ≤ f.range.1 := by
  cases f <;> revert unsigned <;> decide

theorem Profile.inRange_iff (p : Profile) : p.inRange = true ↔ ∀ f : Field, f.range.1 ≤ p.get f ∧ p.get f ≤ f.range.2 := by
  simp [Profile.inRange, Field.mem_all]

/-- A field reads back what was stored in it, and every other field is as it was. -/
theorem Profile.get_set (p : Profile) (f g : Field) (v : Int) :
    (p.set f v).get g = if g = f then (if f.signed then v else v.toNat) else p.get g := by
  cases f <;> cases g <;> rfl

theorem Field.stored_range (f : Field) (w : U16) : f.range.1 ≤ f.stored w ∧ f.stored w ≤ f.range.2 := by
  have ordered := f.range_le
  rw [Field.stored, clampInt_eq_max_min ordered]
  omega

/-- The value stored is not negative where the field is unsigned, so it reads back as it is (R142, R143). -/
theorem Profile.get_set_stored (p : Profile) (f : Field) (w : U16) : (p.set f (f.stored w)).get f = f.stored w := by
  rw [Profile.get_set, if_pos rfl]
  split
  · rfl
  · next unsigned =>
    have low := Field.range_nonneg (by simpa using unsigned)
    have := (f.stored_range w).1
    omega

theorem Banks.get_set (b : Banks) (n m : Fin 4) (p : Profile) : (b.set n p).get m = if m = n then p else b.get m := by
  fin_cases n <;> fin_cases m <;> rfl

/-- A clamped write keeps every bank in range (R141, R142). -/
theorem banksInRange_write {s t : State} (b : Fin 4) (f : Field) (w : U16)
    (written : t.store.banks = s.store.banks.set b ((s.store.banks.get b).set f (f.stored w))) :
    s.banksInRange → t.banksInRange := by
  intro ranges m
  rw [written, Banks.get_set]
  split
  · refine (Profile.inRange_iff _).mpr fun g => ?_
    by_cases same : g = f
    · subst same
      rw [Profile.get_set_stored]
      exact g.stored_range w
    · rw [Profile.get_set, if_neg same]
      exact (Profile.inRange_iff _).mp (ranges b) g
  · exact ranges m

theorem serveProfileFieldWrite_keepsTables (b f : Byte) (v : U16) (s : State) :
    KeepsTables s (serveProfileFieldWrite b f v s).1 := by
  unfold serveProfileFieldWrite
  split
  · exact .same rfl rfl rfl rfl
  · next n _ =>
    split
    · exact .same rfl rfl rfl rfl
    · next g _ =>
      have written : KeepsTables s { s with store := { s.store with
          banks := s.store.banks.set n ((s.store.banks.get n).set g (g.stored v)) } } :=
        ⟨id, id, banksInRange_write n g v rfl, id⟩
      unfold writeField
      dsimp only
      split
      · exact written.trans (computeBudget_keepsTables _ _)
      · exact written

/-- Every service keeps the four tables. -/
theorem serveRequest_keepsTables (p : Port) (r : Request) (b : List Byte) (s : State) :
    KeepsTables s (serveRequest p r b s).1 := by
  cases r with
  | sensorReport => exact serveSensorReport_keepsTables _ _ _ _ s
  | actuatorStatus => exact serveActuatorStatus_keepsTables _ _ _ s
  | eventQuery => exact serveEventQuery_keepsTables p s
  | eventMaskSet => exact serveEventMaskSet_keepsTables p _ s
  | inhibitClaim => exact serveInhibitClaim_keepsTables p _ _ s
  | floorSet => exact serveFloorSet_keepsTables _ s
  | loadLimitSet => exact serveLoadLimitSet_keepsTables _ _ s
  | envelope => exact serveEnvelope_keepsTables _ _ _ _ s
  | departureSet => exact serveDepartureSet_keepsTables _ _ _ _ s
  | replan => exact serveReplan_keepsTables s
  | cancel => exact serveCancel_keepsTables s
  | selectBank => exact serveSelectBank_keepsTables _ s
  | profileFieldWrite => exact serveProfileFieldWrite_keepsTables _ _ _ s
  | slotLengthSet =>
    refine KeepsTables.trans ?_ (scheduleCheck_keepsTables _)
    exact .same rfl rfl rfl rfl
  | sensorTimeoutSet => exact .tracks [] id rfl rfl (recorded_nil _).symm
  | _ => exact .same (by simp [serveRequest]) (by simp [serveRequest]) (by simp [serveRequest]) (by simp [serveRequest])

/-! ### The time base and the resets -/

theorem sensorExpiry_keepsTables (s : State) : KeepsTables s (sensorExpiry s) := by
  have stopped : KeepsTables s { s with track := { s.track with sensorTimer := none } } :=
    .tracks [] id rfl rfl (recorded_nil _).symm
  unfold sensorExpiry
  dsimp only
  split
  · exact stopped.trans (declareSensorLoss_keepsTables _)
  · exact stopped

/-- The hold timer stops: LIVE becomes LOST, and no other state needs the timer (R103, R104). -/
theorem holdExpiry_keepsTables (s : State) : KeepsTables s (holdExpiry s) := by
  unfold holdExpiry
  dsimp only
  split
  · next live =>
    refine KeepsTables.trans ?_ (computeBudget_keepsTables _ _)
    refine KeepsTables.trans ?_ (raise_keepsTables _ _)
    refine ⟨fun table => ?_, id, id, id⟩
    simp only [State.envelopeTable, live] at table
    exact ⟨table.1, rfl, rfl⟩
  · next none =>
    refine ⟨fun table => ?_, id, id, id⟩
    simp only [State.envelopeTable, none] at table ⊢
    exact ⟨table.1, trivial, table.2.2⟩
  · next lost =>
    refine ⟨fun table => ?_, id, id, id⟩
    simpa only [State.envelopeTable, lost] using table

theorem startSlot_keepsTables (s : State) : KeepsTables s (startSlot s) := by
  unfold startSlot
  split
  · exact .same rfl rfl rfl rfl
  · exact (closeSlot_keepsTables s).trans ((allocateSlot_keepsTables _ _).trans (forecast_keepsTables _ _ _ _))

theorem countTime_keepsTables (s : State) : KeepsTables s (countTime s) := by
  refine ⟨fun table => ?_, id, id, id⟩
  cases timer : s.power.holdTimer <;> cases state : s.power.state <;>
    simp_all [State.envelopeTable, countTime, lowerTimer]

/-- The default of every field lies in its range (R151). -/
theorem powerOn_banks_inRange (b : Fin 4) : (StoreBlock.powerOn.banks.get b).inRange = true := by
  revert b
  decide

/-- The default masks leave bit 15 clear, and include RESET_DONE (R161). -/
theorem atRelease_masked (p : Port) :
    RouterBlock.atRelease.pendings.get p &&& RouterBlock.atRelease.masks.get p = RouterBlock.atRelease.pendings.get p ∧
      (RouterBlock.atRelease.masks.get p).getLsbD 15 = false := by
  cases p <;> decide

/-- A reset clears the monitor, the tracker and the pending sets, and keeps the banks or takes their defaults (R191). -/
theorem fallReset_keepsTables (k : ResetKind) (c : ResetCauses) (s : State) : KeepsTables s (fallReset k c s) where
  envelope _ := ⟨rfl, rfl, rfl, rfl⟩
  tracker _ := by cases k <;> simp [State.trackerTable, fallReset, ResetKind.holds, TrackBlock.powerOn]
  banks ranges := by
    cases k with
    | por => exact powerOn_banks_inRange
    | pin => exact ranges
    | soft => exact ranges
  masks _ p := ⟨by simp [fallReset, RouterBlock.inReset], (atRelease_masked p).2⟩

theorem release_keepsTables (c : ResetCauses) (x : BitVec 2) (s : State) : KeepsTables s (release c x s) := by
  have appended : KeepsTables s (appendInterrupted s) := by
    unfold appendInterrupted
    split <;> exact .same rfl rfl rfl rfl
  exact appended.trans ⟨id, id, id, fun _ => atRelease_masked⟩

/-- Every part of a step keeps the four tables. -/
theorem kept_keepsTables (start : State) : Kept (KeepsTables start) where
  port _ _ h := h.trans (.same rfl rfl rfl rfl)
  bus _ _ h := h.trans (.same rfl rfl rfl rfl)
  queue _ _ h := h.trans (.same rfl rfl rfl rfl)
  hold _ _ h := h.trans (.same rfl rfl rfl rfl)
  overflow p s h := h.trans ⟨id, id, id, pendingMasked_raiseAt p .portOverflow s⟩
  serve p r b s _ h := h.trans (serveRequest_keepsTables p r b s)
  fall k c s h := h.trans (fallReset_keepsTables k c s)
  cause _ _ _ _ h := h.trans (.same rfl rfl rfl rfl)
  release c x s _ h := h.trans (release_keepsTables c x s)
  countTime s _ h := h.trans (countTime_keepsTables s)
  countGrants _ _ h := h.trans (.same rfl rfl rfl rfl)
  tickEnd _ _ h := h.trans (.same rfl rfl rfl rfl)
  sensor s _ _ h := h.trans (sensorExpiry_keepsTables s)
  lapse s _ _ h := h.trans (holdExpiry_keepsTables s)
  timeout s _ _ h := h.trans (applyRecords_keepsTables _ s)
  cooldown _ _ _ h := h.trans (.same rfl rfl rfl rfl)
  phase _ _ _ h := h.trans (.same rfl rfl rfl rfl)
  slot s _ _ h := h.trans (startSlot_keepsTables s)
  check s _ _ h := h.trans (scheduleCheck_keepsTables s)
  expire s _ _ h := h.trans (expire_keepsTables s)
  complete c s _ _ _ _ h := h.trans (completePlan_keepsTables c s)

end Sys2Proof.Machine

section
open Sys2Proof Sys2Proof.Machine

/-- Settles O58: every part of a step keeps the four tables (`kept_keepsTables`), so every step does (`Kept.step`). -/
theorem everyStepKeepsTables : Obligations.EveryStepKeepsTables := by
  intro s t taken
  obtain ⟨envelope, tracker, banks, masks⟩ := (kept_keepsTables s).step (.same rfl rfl rfl rfl) taken
  exact ⟨envelope, tracker, banks, masks⟩

end

/-! PROOFS. The grants that every step keeps (05, 5.4; 03, 3.5; 04, 4.1, 4.3): what an issue, a shed and an allocation leave
in the load block, and O40. -/

namespace Sys2Proof.Machine

/-! ### Lawful grants (R73) -/

theorem lawfulGrant_zero (limit : Nat) (l : Load) : lawfulGrant limit l 0 := by
  cases l <;> exact .inl rfl

theorem lawfulGrant_iff_of_modulating {l : Load} (modulates : l.modulating = true) (limit g : Nat) :
    lawfulGrant limit l g ↔ g = 0 ∨ (l.minimum ≤ g ∧ g ≤ limit ∧ g % l.step = 0) := by
  cases l <;> cases modulates <;> exact Iff.rfl

/-- The limit of a modulating load as R74 stores it: a multiple of the step, from the minimum up. -/
def lawfulLimit (l : Load) (limit : Nat) : Prop := l.minimum ≤ limit ∧ limit ≤ l.siliconMax ∧ limit % l.step = 0

/-- The three limits are as R74 stores them. -/
def LoadBlock.limitsLawful (b : LoadBlock) : Prop :=
  lawfulLimit .hpc b.hpcLimit ∧ lawfulLimit .air b.airLimit ∧ lawfulLimit .bat b.batLimit

theorem grantsLawful_iff (s : State) :
    s.grantsLawful ↔ (∀ l, lawfulGrant (s.loads.limit l) l (s.loads.grants.get l)) ∧ s.loads.limitsLawful := Iff.rfl

/-- What a shed leaves of a lawful grant is lawful (R109, steps 3 and 4). -/
theorem shedGrant_lawful {limit : Nat} {l : Load} {g : Nat} (lawful : lawfulGrant limit l g) (e : Nat) :
    lawfulGrant limit l (shedGrant l g e) := by
  have lower := shedGrant_le l g e
  cases modulates : l.modulating with
  | false => simpa [shedGrant, modulates] using lawfulGrant_zero limit l
  | true =>
    rw [lawfulGrant_iff_of_modulating modulates] at lawful ⊢
    by_cases none : shedGrant l g e = 0
    · exact .inl none
    · have multiple : l.minimum ≤ shedGrant l g e ∧ shedGrant l g e % l.step = 0 := by
        unfold shedGrant roundDown at none ⊢
        simp only [modulates, if_true] at none ⊢
        split at none
        · exact absurd rfl none
        · next enough => rw [if_neg enough]; exact ⟨not_lt.mp enough, Nat.mul_mod_left _ _⟩
      obtain zero | ⟨-, below, -⟩ := lawful
      · omega
      · exact .inr ⟨multiple.1, lower.trans below, multiple.2⟩

/-- What an allocation offers from a lawful demand is lawful (R66). -/
theorem offer_lawful {limit : Nat} {l : Load} {d : Nat} (lawful : lawfulGrant limit l d) (left : Nat) :
    lawfulGrant limit l (offer l d left) := by
  have lower := offer_le_demand l d left
  cases modulates : l.modulating with
  | false =>
    rw [offer, modulates]
    simp only [Bool.false_eq_true, if_false]
    split
    · exact lawful
    · exact lawfulGrant_zero limit l
  | true =>
    rw [lawfulGrant_iff_of_modulating modulates] at lawful ⊢
    by_cases none : offer l d left = 0
    · exact .inl none
    · have multiple : l.minimum ≤ offer l d left ∧ offer l d left % l.step = 0 := by
        unfold offer roundDown at none ⊢
        simp only [modulates, if_true] at none ⊢
        split at none
        · exact absurd rfl none
        · next enough => rw [if_neg enough]; exact ⟨not_lt.mp enough, Nat.mul_mod_left _ _⟩
      obtain zero | ⟨-, below, -⟩ := lawful
      · omega
      · exact .inr ⟨multiple.1, lower.trans below, multiple.2⟩

/-! ### The demands (R57 to R63) -/

theorem le_roundUp {k : Nat} (positive : 0 < k) (n : Nat) : n ≤ roundUp k n := le_ceilDiv_mul positive

theorem roundUp_mod (k n : Nat) : roundUp k n % k = 0 := Nat.mul_mod_left _ _

/-- A need rounded up to the load's step and held to its limit is a demand that can be granted. -/
theorem lawfulGrant_min_roundUp {l : Load} (modulates : l.modulating = true) {limit n : Nat}
    (lawful : l.minimum ≤ limit ∧ limit % l.step = 0) (enough : n = 0 ∨ l.minimum ≤ roundUp l.step n) :
    lawfulGrant limit l (min (roundUp l.step n) limit) := by
  rw [lawfulGrant_iff_of_modulating modulates]
  obtain zero | enough := enough
  · have step : 0 < l.step := by cases l <;> decide
    left
    simp [zero, roundUp, ceilDiv, Nat.div_eq_of_lt (Nat.sub_lt step one_pos)]
  · right
    refine ⟨le_min enough lawful.1, min_le_right _ _, ?_⟩
    rcases min_choice (roundUp l.step n) limit with e | e <;> rw [e]
    · exact roundUp_mod _ _
    · exact lawful.2

theorem blowerPower_eq (level : Nat) :
    blowerPower level = if level ≤ 1 then 120 else if level = 2 then 200 else if level = 3 then 300 else 400 := rfl

theorem blowerPower_level (level : Nat) :
    blowerPower level = 120 ∨ blowerPower level = 200 ∨ blowerPower level = 300 ∨ blowerPower level = 400 := by
  rw [blowerPower_eq]
  repeat' split
  all_goals simp

theorem seatPower_level (level : Nat) : seatPower level = 0 ∨ seatPower level = 150 ∨ seatPower level = 300 := by
  unfold seatPower
  repeat' split
  all_goals simp

theorem demandBlw_lawful (i : AllocInputs) (h : HeatNeed) (limit : Nat) : lawfulGrant limit .blw (demandBlw i h) := by
  unfold demandBlw
  split
  · exact .inr (blowerPower_level _)
  · exact lawfulGrant_zero _ _

theorem demandScr_lawful (i : AllocInputs) (limit : Nat) : lawfulGrant limit .scr (demandScr i) := by
  unfold demandScr
  split
  · exact .inr rfl
  · exact lawfulGrant_zero _ _

theorem demandSeat_lawful (i : AllocInputs) (limit : Nat) : lawfulGrant limit .seat (demandSeat i) := by
  unfold demandSeat
  split
  · exact seatPower_level _
  · exact lawfulGrant_zero _ _

theorem demandHpc_lawful (i : AllocInputs) (h : HeatNeed)
    (limit : 800 ≤ i.loads.hpcLimit ∧ i.loads.hpcLimit % 100 = 0) :
    lawfulGrant i.loads.hpcLimit .hpc (demandHpc i h) := by
  unfold demandHpc
  split
  · exact lawfulGrant_zero _ _
  · split
    · exact lawfulGrant_zero _ _
    · exact lawfulGrant_min_roundUp rfl limit
        (.inr (le_trans (Nat.le_max_left 800 _) (le_roundUp (k := 100) (by decide) _)))

/-- A need for the pack or the air heater, rounded up to a step of 250 W, is 0 or at least their minimum. -/
theorem roundUp_250 (n : Nat) : n = 0 ∨ 250 ≤ roundUp 250 n := by
  have up := le_roundUp (k := 250) (by decide) n
  have multiple := roundUp_mod 250 n
  omega

theorem demandAir_lawful (i : AllocInputs) (h : HeatNeed)
    (limit : 250 ≤ i.loads.airLimit ∧ i.loads.airLimit % 250 = 0) :
    lawfulGrant i.loads.airLimit .air (demandAir i h) :=
  lawfulGrant_min_roundUp (l := .air) rfl limit (roundUp_250 _)

theorem demandBat_lawful (i : AllocInputs) (limit : 250 ≤ i.loads.batLimit ∧ i.loads.batLimit % 250 = 0) :
    lawfulGrant i.loads.batLimit .bat (demandBat i) := by
  unfold demandBat
  split
  · exact lawfulGrant_zero _ _
  · split
    · exact lawfulGrant_zero _ _
    · split
      · exact lawfulGrant_min_roundUp (l := .bat) rfl limit (roundUp_250 _)
      · exact .inr ⟨limit.1, le_refl _, limit.2⟩

/-- Under lawful limits every demand is one that its load can be granted (R73). -/
theorem demands_lawful (i : AllocInputs) (hpc : 800 ≤ i.loads.hpcLimit ∧ i.loads.hpcLimit % 100 = 0)
    (air : 250 ≤ i.loads.airLimit ∧ i.loads.airLimit % 250 = 0)
    (bat : 250 ≤ i.loads.batLimit ∧ i.loads.batLimit % 250 = 0) (l : Load) :
    lawfulGrant (i.loads.limit l) l ((demands i).get l) := by
  cases l with
  | blw => exact demandBlw_lawful i _ _
  | hpc => exact demandHpc_lawful i _ hpc
  | air => exact demandAir_lawful i _ air
  | scr => exact demandScr_lawful i _
  | seat => exact demandSeat_lawful i _
  | bat => exact demandBat_lawful i bat

/-! ### The cabin heat need (R52 to R54) -/

/-- A warming term as the manual writes it: without a rise the ceiling of nothing is 0. -/
theorem warmingPower_eq (p : Profile) (tFrom tTo : Int) (length : Nat) :
    warmingPower p tFrom tTo length = (p.cCab * (tTo - tFrom).toNat * 100 + length - 1) / length := by
  unfold warmingPower
  split
  · next cooler =>
    have none : (tTo - tFrom).toNat = 0 := by omega
    rw [none]
    cases length with
    | zero => simp
    | succ n => simp [Nat.div_eq_of_lt]
  · rfl

theorem heatNeed_watts (i : AllocInputs) :
    (heatNeed i).watts =
      if i.openLoop = true ∨ i.tCab = none then i.entry.forecast
      else if i.profile.tSet ≤ i.tCab.getD 0 then 0
      else min 20000 (warmingPower i.profile (i.tCab.getD 0) i.entry.trajEnd (i.entry.start - i.entry.stop)
        + lossPower i.profile (i.tCab.getD 0) i.tOut) := by
  unfold heatNeed
  cases i.openLoop with
  | true => simp
  | false =>
    cases i.tCab with
    | none => simp
    | some t =>
      simp only [Bool.false_eq_true, reduceCtorEq, or_self, if_false, Option.getD_some]
      split
      · rfl
      · split <;> simp only <;> omega

theorem heatNeed_ventilation (i : AllocInputs) :
    (heatNeed i).ventilation = true ↔
      ¬(i.openLoop = true ∨ i.tCab = none) ∧ i.profile.tSet ≤ i.tCab.getD 0 := by
  unfold heatNeed
  cases i.openLoop with
  | true => simp
  | false =>
    cases i.tCab with
    | none => simp
    | some t =>
      simp only [Bool.false_eq_true, reduceCtorEq, or_self, Option.getD_some]
      split
      · next warm => simp [warm]
      · next cold =>
        split <;> simp [cold]

theorem hpcUnavailable_iff (i : AllocInputs) :
    hpcUnavailable i = true ↔ i.loads.records.hpc.claims.nonempty = true ∨ i.loads.records.hpc.state = .faulted ∨
      i.loads.records.hpc.state = .cooldown ∨ i.floor < i.profile.level .hpc := by
  simp [hpcUnavailable, LoadRecord.inhibited, or_assoc]

end Sys2Proof.Machine

section
open Sys2Proof Sys2Proof.Machine

/-- Settles O40: the heat need is `heatNeed_watts`; each demand is its definition with the need put in, and is lawful
under lawful limits (`demands_lawful`). -/
theorem demandsAreGrantable : Obligations.DemandsAreGrantable := by
  intro i p d cab openLoop ventilates length warming loss need hpc minimumOn away cop left energy spread
  have watts : (heatNeed i).watts = need := by
    rw [heatNeed_watts, warmingPower_eq]
    rfl
  have ventilation : (heatNeed i).ventilation = true ↔ ventilates := heatNeed_ventilation i
  have runs : i.loads.records.hpc.minimumOn = true ↔ minimumOn := minimumOn_iff _
  have unavailable : hpcUnavailable i = true ↔ away := hpcUnavailable_iff i
  refine ⟨?blw, ?hpc, ?air, rfl, rfl, ?bat, ?lawful⟩
  case blw =>
    show demandBlw i (heatNeed i) = _
    simp only [demandBlw, watts, ventilation, runs, blowerPower_eq]
    rfl
  case hpc =>
    show demandHpc i (heatNeed i) = _
    simp only [demandHpc, watts, unavailable, Bool.not_eq_true', Bool.eq_false_iff, ne_eq, runs, ite_or]
    rfl
  case air =>
    show demandAir i (heatNeed i) = _
    simp only [demandAir, watts]
    rfl
  case bat =>
    show demandBat i = _
    have packed : packEnergy i = energy := by
      unfold packEnergy energy
      cases i.tPack <;> rfl
    simp only [demandBat, packed, Bool.not_eq_true', ite_or]
    rfl
  case lawful =>
    exact fun hpc hpcStep air airStep bat batStep => demands_lawful i ⟨hpc, hpcStep⟩ ⟨air, airStep⟩ ⟨bat, batStep⟩

end

/-! PROOFS. The grants that every step keeps (05, 5.4; 03, 3.5; 04, 4.3): the grants with the load states, and the grants
with the budget, through each operation. -/

namespace Sys2Proof.Machine

/-! ### The two properties of the grants -/

/-- What holds of the grants within the load block: no heater without the blower, a grant exactly for a load that starts
or runs, and lawful values. -/
structure State.LoadsSound (s : State) : Prop where
  coupled : s.heatersNeedBlower
  states : s.grantsFollowStates
  lawful : s.grantsLawful

theorem LoadsSound_congr {s t : State} (same : t.loads = s.loads) (sound : s.LoadsSound) : t.LoadsSound := by
  obtain ⟨coupled, states, lawful⟩ := sound
  constructor
  · simpa only [State.heatersNeedBlower, same] using coupled
  · simpa only [State.grantsFollowStates, same] using states
  · simpa only [State.grantsLawful, same] using lawful

/-- An operation keeps the soundness of the load block and the grants within the budget. -/
structure KeepsGrants (s t : State) : Prop where
  sound : s.LoadsSound → t.LoadsSound
  within : s.LoadsSound → s.withinBudget → t.withinBudget

theorem KeepsGrants.trans {s t u : State} (first : KeepsGrants s t) (second : KeepsGrants t u) : KeepsGrants s u :=
  ⟨second.sound ∘ first.sound, fun sound => second.within (first.sound sound) ∘ first.within sound⟩

theorem KeepsGrants.same {s t : State} (loads : t.loads = s.loads) (budget : t.power.budget = s.power.budget) :
    KeepsGrants s t :=
  ⟨LoadsSound_congr loads, fun _ within => by simpa only [State.withinBudget, loads, budget] using within⟩

/-! ### The issue of a grant set (R90) -/

theorem afterGrant_claims (l : Load) (r : LoadRecord) (g : Nat) : (r.afterGrant l g).claims = r.claims := by
  rw [afterGrant_eq]
  split_ifs <;> rfl

/-- After the move that a grant causes, a load that may run starts or runs exactly if it has one (R77). -/
theorem afterGrant_state (l : Load) {r : LoadRecord} {g : Nat} (may : g ≠ 0 → r.state ≠ .faulted ∧ r.state ≠ .cooldown) :
    g ≠ 0 ↔ (r.afterGrant l g).state = .starting ∨ (r.afterGrant l g).state = .running := by
  rw [afterGrant_eq]
  cases state : r.state <;> by_cases none : g = 0 <;> simp_all
  split <;> simp

theorem issueFrom_grantsFollowStates (r : LoadRecord) (h : Handed) (s : State) :
    (issueFrom r h s).grantsFollowStates := by
  intro l
  have stopped := issuedSet_stopped s.loads h l
  rw [issueFrom_grants, issueFrom_records]
  refine ⟨afterGrant_state l fun granted => ?_, fun inhibited => stopped (.inl ?_)⟩
  · exact ⟨fun faulted => granted (stopped (.inr (.inl faulted))),
      fun cooling => granted (stopped (.inr (.inr cooling)))⟩
  · simpa only [LoadRecord.inhibited, afterGrant_claims] using inhibited

theorem issueFrom_heatersNeedBlower (r : LoadRecord) (h : Handed) (s : State) :
    (issueFrom r h s).heatersNeedBlower := issuedSet_blower s.loads h

theorem issueFrom_limit (r : LoadRecord) (h : Handed) (s : State) (l : Load) :
    (issueFrom r h s).loads.limit l = s.loads.limit l := by
  cases l <;> rfl

/-- Whatever stood before, an issue of lawful grants leaves a sound load block. -/
theorem issueFrom_sound {r : LoadRecord} {h : Handed} {s : State} (limits : s.loads.limitsLawful)
    (lawful : ∀ l, lawfulGrant (s.loads.limit l) l (handedGrant s.loads h l)) : (issueFrom r h s).LoadsSound where
  coupled := issueFrom_heatersNeedBlower r h s
  states := issueFrom_grantsFollowStates r h s
  lawful := by
    refine (grantsLawful_iff _).mpr ⟨fun l => ?_, limits⟩
    rw [issueFrom_limit, issueFrom_grants]
    rcases issuedSet_grant s.loads h l with e | e <;> rw [e]
    · exact lawful l
    · exact lawfulGrant_zero _ l

/-- A set that only takes grants away: each load's grant handed over is 0. -/
def Handed.Removes (h : Handed) : Prop := ∀ l g, h.get l = some g → g.1 = 0

theorem handedGrant_removes {h : Handed} (removes : Handed.Removes h) (b : LoadBlock) (l : Load) :
    handedGrant b h l = b.grants.get l ∨ handedGrant b h l = 0 := by
  unfold handedGrant
  cases e : h.get l with
  | none => exact .inl rfl
  | some g => exact .inr (removes l g e)

theorem issueFrom_removes_le {h : Handed} (removes : Handed.Removes h) (r : LoadRecord) (s : State) :
    (issueFrom r h s).loads.grants.sum ≤ s.loads.grants.sum :=
  issueFrom_sum_le r h s fun l g handed => by rw [removes l g handed]; exact Nat.zero_le _

/-- Taking grants away leaves a sound load block, whatever has moved the records before. -/
theorem issueFrom_removes_sound {h : Handed} (removes : Handed.Removes h) {r : LoadRecord} {s : State}
    (lawful : s.grantsLawful) : (issueFrom r h s).LoadsSound := by
  obtain ⟨grants, limits⟩ := (grantsLawful_iff s).mp lawful
  refine issueFrom_sound limits fun l => ?_
  rcases handedGrant_removes removes s.loads l with e | e <;> rw [e]
  · exact grants l
  · exact lawfulGrant_zero _ l

theorem issueFrom_removes_keepsGrants {h : Handed} (removes : Handed.Removes h) (r : LoadRecord) (s : State) :
    KeepsGrants s (issueFrom r h s) :=
  ⟨fun sound => issueFrom_removes_sound removes sound.lawful,
    fun _ within => (issueFrom_removes_le removes r s).trans within⟩

theorem removes_nothing_set (l : Load) (reason : Reason) :
    Handed.Removes (Handed.nothing.set l (some (0, reason))) := by
  intro m g handed
  rw [PerLoad.get_set] at handed
  split at handed
  · cases handed; rfl
  · simp [Handed.nothing] at handed

theorem issueZero_keepsGrants (s : State) : KeepsGrants s (issueZero s) :=
  issueFrom_removes_keepsGrants (fun l g handed => by simp only [PerLoad.get_ofFn] at handed; cases handed; rfl) _ s

/-! ### The budget (R100, R101, R108, R109) -/

theorem shedHanded_lawful {s : State} (lawful : s.grantsLawful) (p : Profile) (budget : Nat) (l : Load) :
    lawfulGrant (s.loads.limit l) l (handedGrant s.loads (shedHanded p s.loads budget) l) := by
  have grants := ((grantsLawful_iff s).mp lawful).1 l
  unfold handedGrant
  rw [shedHanded_get]
  split
  · exact grants
  · exact shedGrant_lawful grants _

theorem shed_sound (p : Profile) {s : State} (sound : s.LoadsSound) : (shed p s).LoadsSound :=
  LoadsSound_congr (shed_loads p s)
    (issueFrom_sound ((grantsLawful_iff s).mp sound.lawful).2 (shedHanded_lawful sound.lawful p _))

/-- A computation of the budget sheds what it must, and leaves the grants within the budget (R108). -/
theorem computeBudget_keepsGrants (p : Profile) (s : State) : KeepsGrants s (computeBudget p s) := by
  refine ⟨fun sound => ?_, fun _ _ => computeBudget_within p s⟩
  unfold computeBudget
  dsimp only
  split
  · exact shed_sound p (LoadsSound_congr (s := s) rfl sound)
  · exact LoadsSound_congr (s := s) rfl sound

theorem reexamine_keepsGrants (p : Profile) (s : State) : KeepsGrants s (reexamine p s) := by
  unfold reexamine
  dsimp only
  split
  · refine KeepsGrants.trans ?_ (computeBudget_keepsGrants _ _)
    exact .same rfl rfl
  · exact computeBudget_keepsGrants p s

/-! ### The allocation (R64 to R66) -/

/-- An allocation from the state's own limits and budget grants lawful values within the budget. -/
theorem allocateSlot_keepsGrants (n : Nat) (s : State) : KeepsGrants s (allocateSlot n s) := by
  unfold allocateSlot
  split
  · exact .same rfl rfl
  · next r _ =>
    split
    · exact .same rfl rfl
    · next e _ =>
      have handed : ∀ b l, handedGrant b (.ofFn fun l => some ((allocate (s.allocInputs r e)).get l)) l =
          ((allocate (s.allocInputs r e)).get l).1 := fun b l => by simp [handedGrant]
      refine ⟨fun sound => ?_, fun _ _ => ?_⟩
      · obtain ⟨-, hpc, air, bat⟩ := (grantsLawful_iff s).mp sound.lawful
        refine issueFrom_sound ⟨hpc, air, bat⟩ fun l => ?_
        rw [handed, allocate_get]
        have demand := demands_lawful (s.allocInputs r e) ⟨hpc.1, hpc.2.2⟩ ⟨air.1, air.2.2⟩ ⟨bat.1, bat.2.2⟩ l
        rcases grantOne_grant (s.allocInputs r e) l ((demands (s.allocInputs r e)).get l)
          ((allocate (s.allocInputs r e)).get .blw).1 _ with none | offered
        · rw [none]; exact lawfulGrant_zero _ l
        · rw [offered]; exact offer_lawful demand _
      · refine (issueFrom_sum _ _ _).trans (le_trans (le_of_eq ?_) (allocate_sum (s.allocInputs r e)))
        exact congrArg PerLoad.sum (PerLoad.ext_get fun l => by simp [handed, grantsOf])

/-! ### The run -/

theorem forecast_keepsGrants (p : Profile) (t : Int) (h : Option Nat) (s : State) : KeepsGrants s (forecast p t h s) :=
  .same (forecast_loads p t h s) (by rw [forecast_power])

theorem closeSlot_keepsGrants (s : State) : KeepsGrants s (closeSlot s) :=
  .same (closeSlot_loads s) (by rw [closeSlot_power])

theorem scheduleCheck_keepsGrants (s : State) : KeepsGrants s (scheduleCheck s) := by
  unfold scheduleCheck
  split
  · dsimp only
    have forecasted := fun t h => (reexamine_keepsGrants s.activeProfile s).trans
      (forecast_keepsGrants s.activeProfile t h _)
    split
    · exact (forecasted _ _).trans (.same rfl rfl)
    · exact (forecasted _ _).trans (.same rfl rfl)
  all_goals exact .same rfl rfl

theorem suspend_keepsGrants (s : State) : KeepsGrants s (suspend s) := by
  unfold suspend
  dsimp only
  refine KeepsGrants.trans ?_ (scheduleCheck_keepsGrants _)
  refine KeepsGrants.trans ?_ (computeBudget_keepsGrants _ _)
  exact (closeSlot_keepsGrants s).trans ((issueZero_keepsGrants _).trans (.same rfl rfl))

theorem replan_keepsGrants (s : State) : KeepsGrants s (replan s) := by
  unfold replan
  split
  · exact suspend_keepsGrants s
  · exact .same rfl rfl

theorem endRun_keepsGrants (cause : EndCause) (s : State) : KeepsGrants s (endRun cause s) := by
  unfold endRun
  dsimp only
  refine KeepsGrants.trans ?_ (computeBudget_keepsGrants _ _)
  refine KeepsGrants.trans ?_ (.same (s := issueZero _) rfl rfl)
  refine KeepsGrants.trans ?_ (issueZero_keepsGrants _)
  exact (closeSlot_keepsGrants s).trans (.same rfl rfl)

theorem enterIdle_keepsGrants (s : State) : KeepsGrants s (enterIdle s) :=
  .same (enterIdle_loads s) (by rw [enterIdle_power])

theorem expire_keepsGrants (s : State) : KeepsGrants s (expire s) := by
  have ended : KeepsGrants s (if s.inRun then endRun .departed s else s) := by
    split
    · exact endRun_keepsGrants _ s
    · exact .same rfl rfl
  unfold expire
  dsimp only
  split
  · exact ended.trans (enterIdle_keepsGrants _)
  · refine ended.trans (KeepsGrants.trans ?_ (scheduleCheck_keepsGrants _))
    exact .same rfl rfl

theorem completePlan_keepsGrants (c : Capture) (s : State) : KeepsGrants s (completePlan c s) := by
  unfold completePlan
  dsimp only
  refine KeepsGrants.trans ?_ (.same (s := raiseDone _ _) rfl rfl)
  refine KeepsGrants.trans ?_ (.same (raiseDone_loads _ _) (by rw [raiseDone_power]))
  refine KeepsGrants.trans ?_ (forecast_keepsGrants _ _ _ _)
  have allocated : ∀ r t, KeepsGrants t (allocateCurrent r t) := fun r t => by
    unfold allocateCurrent
    split
    · exact allocateSlot_keepsGrants _ t
    · exact .same rfl rfl
  refine KeepsGrants.trans ?_ (allocated _ _)
  refine KeepsGrants.trans ?_ (.same (s := reexamine _ _) rfl rfl)
  refine KeepsGrants.trans ?_ (reexamine_keepsGrants _ _)
  exact .same (by simp) (by simp)

/-! ### The services -/

/-- What a claim may change: the claim set of one load, with its grant gone where the set is not empty (R84, R86). -/
theorem setClaims_sound {l : Load} {claims : PerPort Bool} {s : State} (sound : s.LoadsSound)
    (none : claims.nonempty = true → s.loads.grants.get l = 0) : (setClaims l claims s).LoadsSound where
  coupled := sound.coupled
  states m := by
    obtain ⟨follows, inhibited⟩ := sound.states m
    simp only [setClaims, PerLoad.get_set]
    split
    · next same => subst same; exact ⟨follows, none⟩
    · exact ⟨follows, inhibited⟩
  lawful := sound.lawful

theorem claimSet_keepsGrants (p : Port) (l : Load) (s : State) : KeepsGrants s (claimSet p l s) := by
  have removes := removes_nothing_set l .inhibited
  unfold claimSet
  dsimp only
  split
  · exact ⟨fun sound => issueFrom_removes_sound removes sound.lawful,
      fun _ within => (issueFrom_removes_le removes _ _).trans within⟩
  · next keeps =>
    refine ⟨fun sound => setClaims_sound sound fun _ => ?_, fun _ within => within⟩
    by_contra granted
    cases claims : (s.loads.records.get l).claims.nonempty with
    | true => exact granted ((sound.states l).2 claims)
    | false => exact keeps ⟨by simp [claims], granted⟩

theorem nonempty_of_set_false {x : PerPort Bool} {p : Port} (left : (x.set p false).nonempty = true) :
    x.nonempty = true := by
  simp only [PerPort.nonempty, Bool.or_eq_true] at left ⊢
  cases p <;> simp only [PerPort.set, Bool.false_eq_true] at left <;> tauto

theorem claimClear_keepsGrants (p : Port) (l : Load) (s : State) : KeepsGrants s (claimClear p l s) :=
  ⟨fun sound => setClaims_sound sound fun left => (sound.states l).2 (nonempty_of_set_false left), fun _ within => within⟩

theorem serveInhibitClaim_keepsGrants (p : Port) (l a : Byte) (s : State) :
    KeepsGrants s (serveInhibitClaim p l a s).1 := by
  unfold serveInhibitClaim
  split
  · exact .same rfl rfl
  · split
    · exact .same rfl rfl
    · dsimp only
      split
      · exact claimSet_keepsGrants p _ s
      · split
        · exact claimClear_keepsGrants p _ s
        · exact .same rfl rfl

theorem flooredLoads_removes (p : Profile) (floor : Nat) (grants : PerLoad Nat) :
    Handed.Removes (flooredLoads p floor grants) := by
  intro l g handed
  simp only [flooredLoads, PerLoad.get_ofFn] at handed
  split at handed
  · cases handed; rfl
  · cases handed

theorem serveFloorSet_keepsGrants (f : Byte) (s : State) : KeepsGrants s (serveFloorSet f s).1 := by
  unfold serveFloorSet setFloor
  dsimp only
  split
  · refine KeepsGrants.trans ?_ (issueFrom_removes_keepsGrants (flooredLoads_removes _ _ _) _ _)
    exact .same rfl rfl
  · exact .same rfl rfl

theorem serveEnvelope_keepsGrants (l : Byte) (g k h : U16) (s : State) : KeepsGrants s (serveEnvelope l g k h s).1 := by
  unfold serveEnvelope
  split
  · exact .same rfl rfl
  · unfold envelopeArrival
    dsimp only
    split
    · refine KeepsGrants.trans ?_ (computeBudget_keepsGrants _ _)
      exact .same rfl rfl
    · refine KeepsGrants.trans ?_ (computeBudget_keepsGrants _ _)
      exact .same rfl rfl
    · exact .same rfl rfl

/-! ### Load Limit Set (R74, R75) -/

/-- A limit as Load Limit Set stores it (R74). -/
theorem lawfulLimit_stored (l : Load) (v : Nat) :
    lawfulLimit l (roundDown l.step (clampNat l.minimum l.siliconMax v)) := by
  have low : l.minimum ≤ clampNat l.minimum l.siliconMax v ∧ clampNat l.minimum l.siliconMax v ≤ l.siliconMax := by
    rw [clampNat_eq_max_min (by cases l <;> decide)]
    have ordered : l.minimum ≤ l.siliconMax := by cases l <;> decide
    omega
  have rounded : l.minimum ≤ roundDown l.step (clampNat l.minimum l.siliconMax v) := by
    have whole : l.minimum / l.step * l.step = l.minimum := by cases l <;> rfl
    exact whole.symm.le.trans (Nat.mul_le_mul_right _ (Nat.div_le_div_right low.1))
  exact ⟨rounded, (Nat.div_mul_le_self _ _).trans low.2, Nat.mul_mod_left _ _⟩

theorem setLimit_limit {l : Load} (modulates : l.modulating = true) (b : LoadBlock) (v : Nat) (m : Load) :
    (b.setLimit l v).limit m = if m = l then v else b.limit m := by
  cases l <;> cases modulates <;> cases m <;> rfl

theorem setLimit_grants (b : LoadBlock) (l : Load) (v : Nat) : (b.setLimit l v).grants = b.grants := by
  cases l <;> rfl

theorem setLimit_records (b : LoadBlock) (l : Load) (v : Nat) : (b.setLimit l v).records = b.records := by
  cases l <;> rfl

theorem setLimit_limitsLawful {l : Load} {b : LoadBlock} {v : Nat} (lawful : lawfulLimit l v)
    (limits : b.limitsLawful) : (b.setLimit l v).limitsLawful := by
  obtain ⟨hpc, air, bat⟩ := limits
  cases l with
  | hpc => exact ⟨lawful, air, bat⟩
  | air => exact ⟨hpc, lawful, bat⟩
  | bat => exact ⟨hpc, air, lawful⟩
  | blw => exact ⟨hpc, air, bat⟩
  | scr => exact ⟨hpc, air, bat⟩
  | seat => exact ⟨hpc, air, bat⟩

/-- Every load but the one whose limit moved keeps a lawful grant; that one has a lawful grant of its own. -/
theorem setLimit_lawful {l : Load} (modulates : l.modulating = true) {s : State} (lawful : s.grantsLawful) {v : Nat}
    {grant : Load → Nat} (own : lawfulGrant v l (grant l)) (others : ∀ m, m ≠ l → grant m = s.loads.grants.get m)
    (m : Load) : lawfulGrant ((s.loads.setLimit l v).limit m) m (grant m) := by
  rw [setLimit_limit modulates]
  split
  · next same => subst same; exact own
  · next other => rw [others m other]; exact ((grantsLawful_iff s).mp lawful).1 m

theorem setLoadLimit_keepsGrants {l : Load} (modulates : l.modulating = true) {v : Nat} (lawful : lawfulLimit l v)
    (s : State) : KeepsGrants s (setLoadLimit l v s) := by
  unfold setLoadLimit
  dsimp only
  have limits := fun sound : s.LoadsSound => setLimit_limitsLawful lawful ((grantsLawful_iff s).mp sound.lawful).2
  split
  · next above =>
    have handed : ∀ m, handedGrant (s.loads.setLimit l v)
        (Handed.nothing.set l (some (v, cutReason (s.loads.reasons.get l)))) m =
          if m = l then v else s.loads.grants.get m := fun m => by
      unfold handedGrant
      rw [PerLoad.get_set]
      split
      · rfl
      · simp [Handed.nothing, setLimit_grants]
    refine ⟨fun sound => issueFrom_sound (limits sound) fun m => ?_, fun _ within => ?_⟩
    · rw [handed]
      refine setLimit_lawful modulates sound.lawful (grant := fun m => if m = l then v else s.loads.grants.get m) ?_
        (fun m other => if_neg other) m
      rw [if_pos rfl, lawfulGrant_iff_of_modulating modulates]
      exact .inr ⟨lawful.1, le_refl v, lawful.2.2⟩
    · refine (issueFrom_sum_le _ _ _ fun m g given => ?_).trans (le_of_eq_of_le ?_ within)
      · rw [PerLoad.get_set] at given
        split at given
        · next same => subst same; cases given; rw [setLimit_grants]; exact above.le
        · simp [Handed.nothing] at given
      · rw [setLimit_grants]
  · next below =>
    refine ⟨fun sound => ⟨?_, ?_, (grantsLawful_iff _).mpr ⟨fun m => ?_, limits sound⟩⟩, fun _ within => ?_⟩
    · simpa only [State.heatersNeedBlower, setLimit_grants] using sound.coupled
    · simpa only [State.grantsFollowStates, setLimit_grants, setLimit_records] using sound.states
    · rw [setLimit_grants]
      refine setLimit_lawful modulates sound.lawful ?_ (fun _ _ => rfl) m
      have own := ((grantsLawful_iff s).mp sound.lawful).1 l
      rw [lawfulGrant_iff_of_modulating modulates] at own ⊢
      exact own.imp id fun ⟨low, _, step⟩ => ⟨low, not_lt.mp below, step⟩
    · simpa only [State.withinBudget, setLimit_grants] using within

theorem serveLoadLimitSet_keepsGrants (l : Byte) (v : U16) (s : State) : KeepsGrants s (serveLoadLimitSet l v s).1 := by
  unfold serveLoadLimitSet
  split
  · exact .same rfl rfl
  · split
    · next modulates => exact setLoadLimit_keepsGrants modulates (lawfulLimit_stored _ _) s
    · exact .same rfl rfl

/-! ### The load records (04, 4.3) -/

/-- The load starts or runs. -/
def LoadRecord.Runs (r : LoadRecord) : Prop := r.state = .starting ∨ r.state = .running

/-- The records may move in any way that starts and stops no load and leaves the claims. -/
theorem records_sound {s : State} {records : PerLoad LoadRecord} (sound : s.LoadsSound)
    (runs : ∀ l, (records.get l).Runs ↔ (s.loads.records.get l).Runs)
    (claims : ∀ l, (records.get l).claims = (s.loads.records.get l).claims) :
    ({ s with loads := { s.loads with records := records } } : State).LoadsSound where
  coupled := sound.coupled
  states l := by
    obtain ⟨follows, inhibited⟩ := sound.states l
    refine ⟨follows.trans (runs l).symm, fun h => inhibited ?_⟩
    simpa only [LoadRecord.inhibited, claims l] using h
  lawful := sound.lawful

theorem setRecord_keepsGrants {l : Load} {r : LoadRecord} {s : State}
    (runs : r.Runs ↔ (s.loads.records.get l).Runs) (claims : r.claims = (s.loads.records.get l).claims) :
    KeepsGrants s (setRecord l r s) := by
  refine ⟨fun sound => records_sound sound (fun m => ?_) (fun m => ?_), fun _ within => within⟩
  · rw [PerLoad.get_set]
    split
    · next same => subst same; exact runs
    · exact Iff.rfl
  · rw [PerLoad.get_set]
    split
    · next same => subst same; exact claims
    · rfl

/-- A fault that is cleared leaves its load at rest, as it was (R83). -/
theorem serveClearFault_keepsGrants (l : Byte) (s : State) : KeepsGrants s (serveClearFault l s).1 := by
  unfold serveClearFault
  split
  · exact .same rfl rfl
  · next m _ =>
    dsimp only
    split
    · next faulted =>
      refine setRecord_keepsGrants ?_ rfl
      simp only [LoadRecord.Runs, LoadRecord.cleared, LoadRecord.enter, faulted]
      by_cases hpc : m = .hpc <;> simp [hpc]
    · exact .same rfl rfl

theorem endCooldown_keepsGrants {s : State} (due : cooldownEndDue s = true) : KeepsGrants s (endCooldown s) := by
  simp only [cooldownEndDue, Bool.and_eq_true, beq_iff_eq] at due
  refine setRecord_keepsGrants (l := .hpc) ?_ rfl
  simp [LoadRecord.Runs, LoadRecord.enter, PerLoad.get, due.1]

/-- How an event may move a record: the load enters FAULTED, or it goes on as it was, running or at rest. -/
def LoadRecord.Moves (old new : LoadRecord) : Prop :=
  new.claims = old.claims ∧ ((new.state = .faulted ∧ old.state ≠ .faulted) ∨ (new.Runs ↔ old.Runs))

theorem faultedLoads_removes (before after : PerLoad LoadRecord) : Handed.Removes (faultedLoads before after) := by
  intro l g handed
  simp only [faultedLoads, PerLoad.get_ofFn] at handed
  split at handed
  · cases handed; rfl
  · cases handed

/-- Loads that enter FAULTED lose their grants in the same event (R80). -/
theorem applyRecords_keepsGrants {records : PerLoad LoadRecord} {s : State}
    (moves : ∀ l, (s.loads.records.get l).Moves (records.get l)) : KeepsGrants s (applyRecords records s) := by
  unfold applyRecords
  dsimp only
  split
  · next none =>
    refine ⟨fun sound => records_sound sound (fun l => ?_) fun l => (moves l).1, fun _ within => within⟩
    refine (moves l).2.resolve_left fun entered => ?_
    have handed := congrArg (·.get l) none
    simp [faultedLoads, entered, Handed.nothing] at handed
  · have removes := faultedLoads_removes s.loads.records records
    refine KeepsGrants.trans ?_ (.same (s := issueFrom _ _ _) rfl rfl)
    exact ⟨fun sound => issueFrom_removes_sound removes sound.lawful,
      fun _ within => (issueFrom_removes_le removes _ _).trans within⟩

theorem report_moves (r : LoadRecord) (grant : Nat) (matched : Bool) (code : Byte) :
    r.Moves (r.report grant matched code) := by
  unfold LoadRecord.report
  split
  · split
    · next running => exact ⟨rfl, .inl ⟨rfl, by simp [running.1]⟩⟩
    · exact ⟨rfl, .inr Iff.rfl⟩
  · split
    · split
      · next starting => exact ⟨rfl, .inr (by simp [LoadRecord.Runs, LoadRecord.enter, starting])⟩
      · exact ⟨rfl, .inr Iff.rfl⟩
    · split
      · split
        · exact ⟨rfl, .inr Iff.rfl⟩
        · next sane => exact ⟨rfl, .inl ⟨rfl, sane⟩⟩
      · exact ⟨rfl, .inr Iff.rfl⟩

theorem startTimeouts_keepsGrants (s : State) : KeepsGrants s (startTimeouts s) := by
  refine applyRecords_keepsGrants fun l => ?_
  rw [PerLoad.get_ofFn]
  dsimp only
  split
  · next late =>
    simp only [LoadRecord.timedOut, Bool.and_eq_true, beq_iff_eq] at late
    exact ⟨rfl, .inl ⟨rfl, by simp [late.1]⟩⟩
  · exact ⟨rfl, .inr Iff.rfl⟩

theorem overdrawRemoval_keepsGrants (r : LoadRecord) (s : State) : KeepsGrants s (overdrawRemoval r s) := by
  unfold overdrawRemoval
  dsimp only
  split
  · exact (issueFrom_removes_keepsGrants (removes_nothing_set _ _) r s).trans (.same rfl rfl)
  · exact .same rfl rfl

theorem takeMeasured_keepsGrants (r : LoadRecord) (total : Nat) (matched : Bool) (s : State) :
    KeepsGrants s (takeMeasured r total matched s) := by
  unfold takeMeasured
  dsimp only
  split
  · exact .same rfl rfl
  · split
    · split
      · exact .same rfl rfl
      · refine KeepsGrants.trans ?_ (overdrawRemoval_keepsGrants _ _)
        exact .same rfl rfl
    · exact .same rfl rfl

/-- An acknowledgement leaves the records, the grants and the limits (R94). -/
theorem acknowledge_eq (q : Byte) (s : State) : ∃ acked current,
    acknowledge q s = { s with loads := { s.loads with ackGrants := acked, ackCurrent := current } } := by
  unfold acknowledge
  split
  · exact ⟨_, _, rfl⟩
  · exact ⟨_, _, rfl⟩

theorem serveActuatorStatus_keepsGrants (q : Byte) (x : PerLoad Byte) (d : PerLoad U16) (s : State) :
    KeepsGrants s (serveActuatorStatus q x d s).1 := by
  unfold serveActuatorStatus
  split
  · exact .same rfl rfl
  · obtain ⟨acked, current, acknowledged⟩ := acknowledge_eq q s
    unfold actuatorArrival
    dsimp only
    refine KeepsGrants.trans ?_ (takeMeasured_keepsGrants _ _ _ _)
    rw [acknowledged]
    refine KeepsGrants.trans ?_ (applyRecords_keepsGrants fun l => ?_)
    · exact ⟨fun sound => ⟨sound.coupled, sound.states, sound.lawful⟩, fun _ within => within⟩
    · rw [PerLoad.get_ofFn]
      exact report_moves _ _ _ _

/-! ### The remaining services -/

theorem serveDepartureSet_keepsGrants (v : U16) (u m : Byte) (q : U16) (s : State) :
    KeepsGrants s (serveDepartureSet v u m q s).1 := by
  unfold serveDepartureSet
  split
  · split
    · exact .same rfl rfl
    · unfold departureArrival
      dsimp only
      split
      · refine KeepsGrants.trans ?_ (scheduleCheck_keepsGrants _)
        exact .same rfl rfl
      · refine KeepsGrants.trans ?_ (scheduleCheck_keepsGrants _)
        exact .same rfl rfl
      · refine KeepsGrants.trans ?_ (replan_keepsGrants _)
        exact .same rfl rfl
      · refine KeepsGrants.trans ?_ (replan_keepsGrants _)
        exact .same rfl rfl
      · exact .same rfl rfl
  · exact .same rfl rfl

theorem serveReplan_keepsGrants (s : State) : KeepsGrants s (serveReplan s).1 := by
  unfold serveReplan
  split
  · exact .same rfl rfl
  · exact scheduleCheck_keepsGrants s
  · exact .same rfl rfl
  · exact replan_keepsGrants s
  · exact replan_keepsGrants s

theorem serveCancel_keepsGrants (s : State) : KeepsGrants s (serveCancel s).1 := by
  unfold serveCancel
  split
  · exact .same rfl rfl
  · refine KeepsGrants.trans ?_ (enterIdle_keepsGrants _)
    exact .same rfl rfl
  · exact .same rfl rfl
  · exact (endRun_keepsGrants _ s).trans (enterIdle_keepsGrants _)
  · exact (endRun_keepsGrants _ s).trans (enterIdle_keepsGrants _)

theorem serveSelectBank_keepsGrants (b : Byte) (s : State) : KeepsGrants s (serveSelectBank b s).1 := by
  unfold serveSelectBank
  split
  · exact .same rfl rfl
  · next n _ =>
    have chosen : KeepsGrants s (activate n s) := .same rfl rfl
    unfold bankArrival
    dsimp only
    split
    · exact chosen.trans (computeBudget_keepsGrants _ _)
    · exact chosen.trans ((computeBudget_keepsGrants _ _).trans (scheduleCheck_keepsGrants _))
    · exact chosen.trans (replan_keepsGrants _)
    · exact chosen.trans (replan_keepsGrants _)
    · exact .same rfl rfl

theorem serveProfileFieldWrite_keepsGrants (b f : Byte) (v : U16) (s : State) :
    KeepsGrants s (serveProfileFieldWrite b f v s).1 := by
  unfold serveProfileFieldWrite
  split
  · exact .same rfl rfl
  · split
    · exact .same rfl rfl
    · unfold writeField
      dsimp only
      split
      · refine KeepsGrants.trans ?_ (computeBudget_keepsGrants _ _)
        exact .same rfl rfl
      · exact .same rfl rfl

theorem judge_keepsGrants (d : Nat) (s : State) : KeepsGrants s (judge d s) := by
  obtain ⟨-, lost⟩ | ⟨t, r, -, kept⟩ := judge_eq_loseTrack_or d s
  · rw [lost]
    unfold loseTrack
    dsimp only
    split
    · unfold abortRun
      split
      · refine KeepsGrants.trans ?_ (enterIdle_keepsGrants _)
        refine KeepsGrants.trans ?_ (endRun_keepsGrants _ _)
        exact .same rfl rfl
      · exact .same rfl rfl
    · exact .same rfl rfl
  · rw [kept]; exact .same rfl rfl

theorem serveSensorReport_keepsGrants (a b c : U16) (d : Byte) (s : State) :
    KeepsGrants s (serveSensorReport a b c d s).1 := by
  have tracks : ∀ t c o, KeepsGrants t (trackReport c o t) := fun t c o => by
    unfold trackReport
    split
    · exact .same (by simp) (by simp)
    · split
      · exact .same (by simp) (by simp)
      · refine KeepsGrants.trans (t := releaseDoor t) (.same (by simp) (by simp)) ?_
        unfold judgeReport
        split
        · exact .same rfl rfl
        · exact judge_keepsGrants _ _
  unfold serveSensorReport
  split
  · exact .same rfl rfl
  · refine KeepsGrants.trans ?_ (tracks _ _ _)
    refine .same ?_ ?_ <;> split <;> simp

theorem serveRequest_keepsGrants (p : Port) (r : Request) (b : List Byte) (s : State) :
    KeepsGrants s (serveRequest p r b s).1 := by
  cases r with
  | sensorReport => exact serveSensorReport_keepsGrants _ _ _ _ s
  | actuatorStatus => exact serveActuatorStatus_keepsGrants _ _ _ s
  | inhibitClaim => exact serveInhibitClaim_keepsGrants p _ _ s
  | floorSet => exact serveFloorSet_keepsGrants _ s
  | loadLimitSet => exact serveLoadLimitSet_keepsGrants _ _ s
  | clearFault => exact serveClearFault_keepsGrants _ s
  | envelope => exact serveEnvelope_keepsGrants _ _ _ _ s
  | departureSet => exact serveDepartureSet_keepsGrants _ _ _ _ s
  | replan => exact serveReplan_keepsGrants s
  | cancel => exact serveCancel_keepsGrants s
  | selectBank => exact serveSelectBank_keepsGrants _ s
  | profileFieldWrite => exact serveProfileFieldWrite_keepsGrants _ _ _ s
  | slotLengthSet =>
    refine KeepsGrants.trans ?_ (scheduleCheck_keepsGrants _)
    exact .same rfl rfl
  | _ => exact .same (by simp [serveRequest]) (by simp [serveRequest])

/-! ### The time base and the resets -/

theorem holdExpiry_keepsGrants (s : State) : KeepsGrants s (holdExpiry s) := by
  unfold holdExpiry
  dsimp only
  split
  · refine KeepsGrants.trans ?_ (computeBudget_keepsGrants _ _)
    exact .same rfl rfl
  · exact .same rfl rfl
  · exact .same rfl rfl

theorem sensorExpiry_keepsGrants (s : State) : KeepsGrants s (sensorExpiry s) := by
  unfold sensorExpiry
  dsimp only
  split <;> exact .same rfl rfl

theorem startSlot_keepsGrants (s : State) : KeepsGrants s (startSlot s) := by
  unfold startSlot
  split
  · exact .same rfl rfl
  · exact (closeSlot_keepsGrants s).trans ((allocateSlot_keepsGrants _ _).trans (forecast_keepsGrants _ _ _ _))

theorem countTime_keepsGrants (s : State) : KeepsGrants s (countTime s) := by
  refine ⟨fun sound => ?_, fun _ within => within⟩
  refine LoadsSound_congr (s := { s with loads := { s.loads with records := (countTime s).loads.records } }) rfl
    (records_sound sound (fun l => ?_) fun l => ?_)
  · simp [countTime, LoadRecord.Runs]
  · simp [countTime]

/-- The silicon maxima, at which the limits stand after a power-on reset, are lawful (R74, R97). -/
theorem powerOn_limitsLawful : LoadBlock.powerOn.limitsLawful := by
  unfold LoadBlock.limitsLawful lawfulLimit
  decide

/-- A reset leaves every load at rest without a grant, under lawful limits (R97, R191). -/
theorem fallReset_keepsGrants (k : ResetKind) (c : ResetCauses) (s : State) : KeepsGrants s (fallReset k c s) := by
  have grants : (fallReset k c s).loads.grants = .all 0 := by cases k <;> rfl
  have records : (fallReset k c s).loads.records = .all .clear := by cases k <;> rfl
  refine ⟨fun sound => ⟨fun _ => ?_, fun l => ?_, (grantsLawful_iff _).mpr ⟨fun l => ?_, ?_⟩⟩, fun _ _ => ?_⟩
  · rw [grants]; exact ⟨rfl, rfl⟩
  · rw [grants, records]
    simp [LoadRecord.clear]
  · rw [grants, PerLoad.get_all]; exact lawfulGrant_zero _ l
  · cases k with
    | por => exact powerOn_limitsLawful
    | pin => exact ((grantsLawful_iff s).mp sound.lawful).2
    | soft => exact ((grantsLawful_iff s).mp sound.lawful).2
  · rw [State.withinBudget, grants]; exact Nat.zero_le _

theorem release_keepsGrants (c : ResetCauses) (x : BitVec 2) (s : State) : KeepsGrants s (release c x s) := by
  unfold release appendInterrupted
  dsimp only
  split <;> exact .same rfl rfl

/-- Every part of a step keeps the load block sound and the grants within the budget. -/
theorem kept_keepsGrants (start : State) : Kept (KeepsGrants start) where
  port _ _ h := h.trans (.same rfl rfl)
  bus _ _ h := h.trans (.same rfl rfl)
  queue _ _ h := h.trans (.same rfl rfl)
  hold _ _ h := h.trans (.same rfl rfl)
  overflow _ _ h := h.trans (.same rfl rfl)
  serve p r b s _ h := h.trans (serveRequest_keepsGrants p r b s)
  fall k c s h := h.trans (fallReset_keepsGrants k c s)
  cause _ _ _ _ h := h.trans (.same rfl rfl)
  release c x s _ h := h.trans (release_keepsGrants c x s)
  countTime s _ h := h.trans (countTime_keepsGrants s)
  countGrants _ _ h := h.trans (.same rfl rfl)
  tickEnd _ _ h := h.trans (.same rfl rfl)
  sensor s _ _ h := h.trans (sensorExpiry_keepsGrants s)
  lapse s _ _ h := h.trans (holdExpiry_keepsGrants s)
  timeout s _ _ h := h.trans (startTimeouts_keepsGrants s)
  cooldown _ _ due h := h.trans (endCooldown_keepsGrants due)
  phase _ _ _ h := h.trans (.same rfl rfl)
  slot s _ _ h := h.trans (startSlot_keepsGrants s)
  check s _ _ h := h.trans (scheduleCheck_keepsGrants s)
  expire s _ _ h := h.trans (expire_keepsGrants s)
  complete c s _ _ _ _ h := h.trans (completePlan_keepsGrants c s)

end Sys2Proof.Machine

/-! PROOFS. The table of the run states (01, 1.1; R1, R3, R25, R127) through each operation, and O57. -/

namespace Sys2Proof.Machine

/-! ### Operations within a run state -/

/-- What the run states speak of: the state, the counter and the origin of a generation. -/
def RunBlock.phase (r : RunBlock) : RunState × Bool × Nat × Option Origin := (r.state, r.counting, r.remaining, r.origin)

/-- An operation stays in its run state, keeps or abandons no capture, and grants nothing and starts no tracking while no
grants are live. -/
structure KeepsRest (s t : State) : Prop where
  phase : t.run.phase = s.run.phase
  capture : t.plan.capture = s.plan.capture
  zero : s.live = false → s.loads.grants = .all 0 → t.loads.grants = .all 0
  idle : s.live = false → s.track.tracker = .idle → t.track.tracker = .idle

theorem live_of_phase {s t : State} (phase : t.run.phase = s.run.phase) : t.live = s.live := by
  simp only [RunBlock.phase, Prod.mk.injEq] at phase
  obtain ⟨state, -, -, origin⟩ := phase
  unfold State.live
  rw [state, origin]

theorem KeepsRest.trans {s t u : State} (first : KeepsRest s t) (second : KeepsRest t u) : KeepsRest s u where
  phase := second.phase.trans first.phase
  capture := second.capture.trans first.capture
  zero dead := second.zero ((live_of_phase first.phase).trans dead) ∘ first.zero dead
  idle dead := second.idle ((live_of_phase first.phase).trans dead) ∘ first.idle dead

theorem KeepsRest.runTable {s t : State} (keeps : KeepsRest s t) (h : s.runTable) : t.runTable := by
  obtain ⟨counts, still, flight, captured, rest⟩ := h
  have live := live_of_phase keeps.phase
  have phase := keeps.phase
  simp only [RunBlock.phase, Prod.mk.injEq] at phase
  obtain ⟨state, counting, remaining, origin⟩ := phase
  refine ⟨by rw [counting, state]; exact counts, by rw [state, remaining]; exact still,
    by rw [state, origin]; exact flight, by rw [keeps.capture, state]; exact captured, fun dead => ?_⟩
  rw [live] at dead
  exact ⟨keeps.zero dead (rest dead).1, keeps.idle dead (rest dead).2⟩

/-- An operation that lowers the sum of the grants, and leaves the run, the capture and the tracker. -/
theorem KeepsRest.lowers {s t : State} (phase : t.run.phase = s.run.phase) (capture : t.plan.capture = s.plan.capture)
    (tracker : t.track.tracker = s.track.tracker) (sum : t.loads.grants.sum ≤ s.loads.grants.sum) : KeepsRest s t where
  phase := phase
  capture := capture
  zero _ none := by
    ext l
    have below := (PerLoad_get_le_sum t.loads.grants l).trans sum
    rw [none] at below
    rw [PerLoad.get_all]
    exact Nat.le_zero.mp below
  idle _ rest := tracker.trans rest

theorem KeepsRest.same {s t : State} (phase : t.run.phase = s.run.phase) (capture : t.plan.capture = s.plan.capture)
    (grants : t.loads.grants = s.loads.grants) (tracker : t.track.tracker = s.track.tracker) : KeepsRest s t :=
  .lowers phase capture tracker (by rw [grants])

/-- While grants are live, only the run state and the capture are the table's concern. -/
theorem KeepsRest.ofLive {s t : State} (live : s.live = true) (phase : t.run.phase = s.run.phase)
    (capture : t.plan.capture = s.plan.capture) : KeepsRest s t :=
  ⟨phase, capture, fun dead => by simp [live] at dead, fun dead => by simp [live] at dead⟩

/-! ### The shared operations -/

theorem computeBudget_capture (p : Profile) (s : State) : (computeBudget p s).plan.capture = s.plan.capture := by
  unfold computeBudget
  dsimp only
  split
  · rw [shed_plan]
    unfold countShed
    split <;> rfl
  · rfl

theorem reexamine_capture (p : Profile) (s : State) : (reexamine p s).plan.capture = s.plan.capture := by
  unfold reexamine
  dsimp only
  split <;> exact computeBudget_capture _ _

theorem computeBudget_grants_zero (p : Profile) {s : State} (none : s.loads.grants = .all 0) :
    (computeBudget p s).loads.grants = .all 0 := by
  rw [computeBudget_keeps p s (by rw [none]; exact Nat.zero_le _)]
  exact none

theorem computeBudget_keepsRest (p : Profile) (s : State) : KeepsRest s (computeBudget p s) where
  phase := by rw [computeBudget_run]
  capture := computeBudget_capture p s
  zero _ := computeBudget_grants_zero p
  idle _ rest := by rw [computeBudget_track]; exact rest

theorem reexamine_keepsRest (p : Profile) (s : State) : KeepsRest s (reexamine p s) := by
  unfold reexamine
  dsimp only
  split
  · refine KeepsRest.trans ?_ (computeBudget_keepsRest _ _)
    exact .same rfl rfl rfl rfl
  · exact computeBudget_keepsRest p s

@[simp] theorem setReadiness_tracker (c : Readiness) (m : Int) (s : State) :
    (setReadiness c m s).track.tracker = s.track.tracker := by
  unfold setReadiness
  dsimp only
  split <;> rfl

theorem forecast_keepsRest (p : Profile) (t : Int) (h : Option Nat) (s : State) : KeepsRest s (forecast p t h s) :=
  .same (by rw [forecast_run]) (by rw [forecast_plan]) (by rw [forecast_loads]) (setReadiness_tracker _ _ s)

theorem raise_keepsRest (k : EventKind) (s : State) : KeepsRest s (raise k s) := .same rfl rfl rfl rfl

theorem issueFrom_removes_keepsRest {h : Handed} (removes : Handed.Removes h) (r : LoadRecord) (s : State) :
    KeepsRest s (issueFrom r h s) := .lowers rfl rfl rfl (issueFrom_removes_le removes r s)

theorem allocateSlot_capture (n : Nat) (s : State) : (allocateSlot n s).plan.capture = s.plan.capture := by
  unfold allocateSlot
  split
  · rfl
  · split <;> rfl

/-! ### Run states without a run -/

/-- Nothing of a run is left: no generation, no grant, and the tracker at rest. -/
structure State.Rested (s : State) : Prop where
  origin : s.run.origin = none
  capture : s.plan.capture = none
  grants : s.loads.grants = .all 0
  tracker : s.track.tracker = .idle

theorem State.runTable.ungenerated {s : State} (h : s.runTable) (settled : s.run.state ≠ .planning) :
    s.run.origin = none ∧ s.plan.capture = none := by
  obtain ⟨-, -, flight, captured, -⟩ := h
  exact ⟨by simpa using mt flight.mpr settled, by simpa using mt captured.mp settled⟩

theorem State.runTable.rested {s : State} (h : s.runTable) (without : s.run.state = .idle ∨ s.run.state = .scheduled) :
    s.Rested := by
  obtain ⟨origin, capture⟩ := h.ungenerated (by rcases without with e | e <;> simp [e])
  obtain ⟨-, -, -, -, rest⟩ := h
  have dead : s.live = false := by rcases without with e | e <;> simp [State.live, e]
  exact ⟨origin, capture, (rest dead).1, (rest dead).2⟩

theorem State.Rested.scheduled {s : State} (rested : s.Rested) (state : s.run.state = .scheduled)
    (counting : s.run.counting = true) : s.runTable :=
  ⟨by simp [state, counting], by simp [state], by simp [state, rested.origin], by simp [state, rested.capture],
    fun _ => ⟨rested.grants, rested.tracker⟩⟩

theorem State.Rested.idle {s : State} (rested : s.Rested) (state : s.run.state = .idle) (counting : s.run.counting = false)
    (remaining : s.run.remaining = 0) : s.runTable :=
  ⟨by simp [state, counting], fun _ => remaining, by simp [state, rested.origin], by simp [state, rested.capture],
    fun _ => ⟨rested.grants, rested.tracker⟩⟩

theorem State.Rested.enterIdle {s : State} (rested : s.Rested) : (enterIdle s).runTable := by
  have run : (Machine.enterIdle s).run =
      { s.run with state := .idle, counting := false, remaining := 0, checkDue := false } := by simp [Machine.enterIdle]
  refine State.Rested.idle ⟨?_, ?_, ?_, ?_⟩ ?_ ?_ ?_
  · rw [run]; exact rested.origin
  · rw [enterIdle_plan]; exact rested.capture
  · rw [enterIdle_loads]; exact rested.grants
  · exact (setReadiness_tracker _ _ _).trans rested.tracker
  all_goals rw [run]

theorem startGeneration_runTable {o : Origin} {s : State} (counting : s.run.counting = true)
    (rest : o = .start → s.loads.grants = .all 0 ∧ s.track.tracker = .idle) : (startGeneration o s).runTable := by
  have run : (startGeneration o s).run.state = .planning ∧ (startGeneration o s).run.counting = true ∧
      (startGeneration o s).run.origin = some o := ⟨rfl, counting, rfl⟩
  obtain ⟨state, counting, origin⟩ := run
  refine ⟨by simp [state, counting], by simp [state], by simp [state, origin], ?_, fun dead => rest ?_⟩
  · simp only [state, iff_true]; rfl
  · cases o with
    | start => rfl
    | replan => simp [State.live, state, origin] at dead

theorem scheduleCheck_runTable {s : State} (h : s.runTable) : (scheduleCheck s).runTable := by
  unfold scheduleCheck
  split
  · next scheduled =>
    have rested := h.rested (.inr scheduled)
    have counting : s.run.counting = true := h.1.mpr (by simp [scheduled])
    have dead : s.live = false := by simp [State.live, scheduled]
    dsimp only
    have forecasted := fun t p => (reexamine_keepsRest s.activeProfile s).trans
      (forecast_keepsRest s.activeProfile t p _)
    split
    · refine startGeneration_runTable (by simpa using counting) fun _ => ?_
      exact ⟨(forecasted _ _).zero dead rested.grants, (forecasted _ _).idle dead rested.tracker⟩
    · exact ((forecasted _ _).trans (.same rfl rfl rfl rfl)).runTable h
  all_goals exact h

/-- The run's rest leaves nothing of it where no generation is in flight. -/
theorem suspend_runTable {s : State} (h : s.runTable) (settled : s.run.state ≠ .planning) (runs : s.run.state ≠ .idle) :
    (suspend s).runTable := by
  obtain ⟨origin, capture⟩ := h.ungenerated settled
  have rested : State.Rested { trackerIdle (issueZero (closeSlot s)) with
      run := { (trackerIdle (issueZero (closeSlot s))).run with state := .scheduled } } := by
    refine ⟨?_, ?_, issueZero_grants _, rfl⟩
    · simpa using origin
    · simpa using capture
  unfold suspend
  dsimp only
  refine scheduleCheck_runTable ((computeBudget_keepsRest _ _).runTable (rested.scheduled rfl ?_))
  simpa using h.1.mpr runs

theorem replan_runTable {s : State} (h : s.runTable) (running : s.run.state = .conditioning ∨ s.run.state = .maintain) :
    (replan s).runTable := by
  have runs : s.run.state ≠ .idle := by rcases running with e | e <;> simp [e]
  unfold replan
  split
  · exact suspend_runTable h (by rcases running with e | e <;> simp [e]) runs
  · exact startGeneration_runTable (h.1.mpr runs) (by simp)

theorem endRun_rested (cause : EndCause) (s : State) : (endRun cause s).Rested := by
  refine ⟨by rw [endRun_eq], by rw [endRun_eq], ?_, by rw [endRun_eq]; rfl⟩
  unfold endRun
  dsimp only
  exact computeBudget_grants_zero _ (issueZero_grants _)

theorem rested_of_not_inRun {s : State} (h : s.runTable) (without : s.inRun = false) : s.Rested := by
  refine h.rested ?_
  cases state : s.run.state <;> simp_all [State.inRun]

theorem expire_runTable {s : State} (h : s.runTable) : (expire s).runTable := by
  have rested : State.Rested (if s.inRun then endRun .departed s else s) := by
    split
    · exact endRun_rested _ s
    · next without => exact rested_of_not_inRun h (by simpa using without)
  unfold expire
  dsimp only
  split
  · exact rested.enterIdle
  · exact scheduleCheck_runTable
      (State.Rested.scheduled ⟨rested.origin, rested.capture, rested.grants, rested.tracker⟩ rfl rfl)

/-! ### The completion of a plan (R30) -/

theorem completePlan_run (c : Capture) (s : State) : (completePlan c s).run = { s.run with
    state := if c.profile.settle < s.run.remaining then .conditioning else .maintain
    origin := none
    held := .all false } := by
  simp [completePlan, releaseHeld, enterRun, Capture.build]

theorem completePlan_capture (c : Capture) (s : State) : (completePlan c s).plan.capture = none := by
  have allocated : ∀ r t, (allocateCurrent r t).plan.capture = t.plan.capture := fun r t => by
    unfold allocateCurrent
    split
    · exact allocateSlot_capture _ t
    · rfl
  unfold completePlan
  dsimp only
  simp [allocated, reexamine_capture, installPlan]

theorem completePlan_runTable {c : Capture} {s : State} (h : s.runTable) (planning : s.run.state = .planning) :
    (completePlan c s).runTable := by
  have counting : s.run.counting = true := h.1.mpr (by simp [planning])
  have running : (completePlan c s).run.state = .conditioning ∨ (completePlan c s).run.state = .maintain := by
    rw [completePlan_run]
    dsimp only
    split
    · exact .inl rfl
    · exact .inr rfl
  have capture := completePlan_capture c s
  have counted : (completePlan c s).run.counting = true := by rw [completePlan_run]; exact counting
  have origin : (completePlan c s).run.origin = none := by rw [completePlan_run]
  refine ⟨?_, ?_, ?_, ?_, fun dead => ?_⟩
  · rcases running with e | e <;> simp [e, counted]
  · rcases running with e | e <;> simp [e]
  · rcases running with e | e <;> simp [e, origin]
  · rcases running with e | e <;> simp [e, capture]
  · rcases running with e | e <;> simp [State.live, e] at dead

/-! ### The services that lower grants -/

theorem claimSet_keepsRest (p : Port) (l : Load) (s : State) : KeepsRest s (claimSet p l s) := by
  unfold claimSet
  dsimp only
  split
  · refine KeepsRest.trans ?_ (issueFrom_removes_keepsRest (removes_nothing_set _ _) _ _)
    exact .same rfl rfl rfl rfl
  · exact .same rfl rfl rfl rfl

theorem serveInhibitClaim_keepsRest (p : Port) (l a : Byte) (s : State) : KeepsRest s (serveInhibitClaim p l a s).1 := by
  unfold serveInhibitClaim
  split
  · exact .same rfl rfl rfl rfl
  · split
    · exact .same rfl rfl rfl rfl
    · dsimp only
      split
      · exact claimSet_keepsRest p _ s
      · split <;> exact .same rfl rfl rfl rfl

theorem serveFloorSet_keepsRest (f : Byte) (s : State) : KeepsRest s (serveFloorSet f s).1 := by
  unfold serveFloorSet setFloor
  dsimp only
  split
  · refine KeepsRest.trans ?_ (issueFrom_removes_keepsRest (flooredLoads_removes _ _ _) _ _)
    exact .same rfl rfl rfl rfl
  · exact .same rfl rfl rfl rfl

theorem setLoadLimit_keepsRest (l : Load) (v : Nat) (s : State) : KeepsRest s (setLoadLimit l v s) := by
  unfold setLoadLimit
  dsimp only
  split
  · next above =>
    have cut := issueFrom_sum_le (s.loads.records.get .hpc)
      (Handed.nothing.set l (some (v, cutReason (s.loads.reasons.get l))))
      { s with loads := s.loads.setLimit l v } fun m g given => by
        rw [PerLoad.get_set] at given
        split at given
        · next same => subst same; cases given; rw [setLimit_grants]; exact above.le
        · simp [Handed.nothing] at given
    rw [setLimit_grants] at cut
    exact .lowers rfl rfl rfl cut
  · exact .same rfl rfl (setLimit_grants _ _ _) rfl

theorem serveLoadLimitSet_keepsRest (l : Byte) (v : U16) (s : State) : KeepsRest s (serveLoadLimitSet l v s).1 := by
  unfold serveLoadLimitSet
  split
  · exact .same rfl rfl rfl rfl
  · split
    · exact setLoadLimit_keepsRest _ _ s
    · exact .same rfl rfl rfl rfl

theorem serveClearFault_keepsRest (l : Byte) (s : State) : KeepsRest s (serveClearFault l s).1 := by
  unfold serveClearFault
  split
  · exact .same rfl rfl rfl rfl
  · dsimp only
    split <;> exact .same rfl rfl rfl rfl

theorem applyRecords_keepsRest (records : PerLoad LoadRecord) (s : State) : KeepsRest s (applyRecords records s) := by
  unfold applyRecords
  dsimp only
  split
  · exact .same rfl rfl rfl rfl
  · refine KeepsRest.trans ?_ (raise_keepsRest _ _)
    refine KeepsRest.trans ?_ (issueFrom_removes_keepsRest (faultedLoads_removes _ _) _ _)
    exact .same rfl rfl rfl rfl

theorem overdrawRemoval_keepsRest (r : LoadRecord) (s : State) : KeepsRest s (overdrawRemoval r s) := by
  unfold overdrawRemoval
  dsimp only
  split
  · exact (issueFrom_removes_keepsRest (removes_nothing_set _ _) r s).trans (.same rfl rfl rfl rfl)
  · exact .same rfl rfl rfl rfl

theorem takeMeasured_keepsRest (r : LoadRecord) (total : Nat) (matched : Bool) (s : State) :
    KeepsRest s (takeMeasured r total matched s) := by
  unfold takeMeasured
  dsimp only
  split
  · exact .same rfl rfl rfl rfl
  · split
    · split
      · exact .same rfl rfl rfl rfl
      · refine KeepsRest.trans ?_ (overdrawRemoval_keepsRest _ _)
        exact .same rfl rfl rfl rfl
    · exact .same rfl rfl rfl rfl

theorem serveActuatorStatus_keepsRest (q : Byte) (x : PerLoad Byte) (d : PerLoad U16) (s : State) :
    KeepsRest s (serveActuatorStatus q x d s).1 := by
  unfold serveActuatorStatus
  split
  · exact .same rfl rfl rfl rfl
  · obtain ⟨acked, current, acknowledged⟩ := acknowledge_eq q s
    unfold actuatorArrival
    dsimp only
    refine KeepsRest.trans ?_ (takeMeasured_keepsRest _ _ _ _)
    refine KeepsRest.trans ?_ (applyRecords_keepsRest _ _)
    rw [acknowledged]
    exact .same rfl rfl rfl rfl

theorem serveEnvelope_keepsRest (l : Byte) (g k h : U16) (s : State) : KeepsRest s (serveEnvelope l g k h s).1 := by
  unfold serveEnvelope
  split
  · exact .same rfl rfl rfl rfl
  · unfold envelopeArrival
    dsimp only
    split
    · refine KeepsRest.trans ?_ (computeBudget_keepsRest _ _)
      exact .same rfl rfl rfl rfl
    · refine KeepsRest.trans ?_ (computeBudget_keepsRest _ _)
      exact .same rfl rfl rfl rfl
    · exact .same rfl rfl rfl rfl

theorem serveProfileFieldWrite_keepsRest (b f : Byte) (v : U16) (s : State) :
    KeepsRest s (serveProfileFieldWrite b f v s).1 := by
  unfold serveProfileFieldWrite
  split
  · exact .same rfl rfl rfl rfl
  · split
    · exact .same rfl rfl rfl rfl
    · unfold writeField
      dsimp only
      split
      · refine KeepsRest.trans ?_ (computeBudget_keepsRest _ _)
        exact .same rfl rfl rfl rfl
      · exact .same rfl rfl rfl rfl

/-! ### Sensor Report -/

theorem holdForDoor_idle {s : State} (rest : s.track.tracker = .idle) : holdForDoor s = s := by
  simp [holdForDoor, rest]

theorem releaseDoor_idle {s : State} (rest : s.track.tracker = .idle) : releaseDoor s = s := by
  simp [releaseDoor, rest]

theorem holdForDoor_keepsRest (s : State) : KeepsRest s (holdForDoor s) where
  phase := by rw [holdForDoor_run]
  capture := by rw [holdForDoor_plan]
  zero _ none := by rw [holdForDoor_loads]; exact none
  idle _ rest := by rw [holdForDoor_idle rest]; exact rest

theorem releaseDoor_keepsRest (s : State) : KeepsRest s (releaseDoor s) where
  phase := by rw [releaseDoor_run]
  capture := by rw [releaseDoor_plan]
  zero _ none := by rw [releaseDoor_loads]; exact none
  idle _ rest := by rw [releaseDoor_idle rest]; exact rest

theorem openLoopReturn_keepsRest (s : State) : KeepsRest s (openLoopReturn s) where
  phase := by rw [openLoopReturn_run]
  capture := by rw [openLoopReturn_plan]
  zero _ none := by rw [openLoopReturn_loads]; exact none
  idle _ rest := by
    unfold openLoopReturn
    split
    · simp [rest]
    · exact rest

/-- The track is lost while grants are live; the run goes on, or ends in IDLE (R131, R134). -/
theorem loseTrack_runTable {s : State} (h : s.runTable) (following : s.track.tracker = .onTrack) :
    (loseTrack s).runTable := by
  have live : s.live = true := by
    by_contra dead
    simp at dead
    have rest := (h.2.2.2.2 dead).2
    simp [following] at rest
  unfold loseTrack
  dsimp only
  split
  · unfold abortRun
    split
    · exact (endRun_rested _ _).enterIdle
    · refine KeepsRest.runTable (s := s) ?_ h
      exact .ofLive live rfl rfl
  · refine KeepsRest.runTable (s := s) ?_ h
    exact .ofLive live rfl rfl

theorem judge_runTable {s : State} (h : s.runTable) (d : Nat) : (judge d s).runTable := by
  obtain ⟨following, lost⟩ | ⟨t, r, rests, kept⟩ := judge_eq_loseTrack_or d s
  · rw [lost]; exact loseTrack_runTable h following
  · rw [kept]
    refine KeepsRest.runTable (s := s) ⟨rfl, rfl, fun _ => id, fun _ rest => ?_⟩ h
    exact (congrArg TrackBlock.tracker (rests rest)).trans rest

theorem serveSensorReport_runTable {s : State} (h : s.runTable) (a b c : U16) (d : Byte) :
    (serveSensorReport a b c d s).1.runTable := by
  have tracks : ∀ {t : State}, t.runTable → ∀ cab door, (trackReport cab door t).runTable := fun {t} ht cab door => by
    unfold trackReport
    split
    · exact (holdForDoor_keepsRest t).runTable ht
    · split
      · exact (releaseDoor_keepsRest t).runTable ht
      · have released := (releaseDoor_keepsRest t).runTable ht
        unfold judgeReport
        split
        · exact released
        · exact judge_runTable released _
  unfold serveSensorReport
  split
  · exact h
  · refine tracks ?_ _ _
    split
    · refine KeepsRest.runTable (KeepsRest.trans ?_ (openLoopReturn_keepsRest _)) h
      exact .same rfl rfl rfl rfl
    · exact KeepsRest.runTable (.same rfl rfl rfl rfl) h

/-! ### The requests that plan -/

theorem serveDepartureSet_runTable {s : State} (h : s.runTable) (v : U16) (u m : Byte) (q : U16) :
    (serveDepartureSet v u m q s).1.runTable := by
  have loaded : ∀ v u m q, s.run.state ≠ .idle → (loadDeparture v u m q s).runTable := fun v u m q runs => by
    obtain ⟨counts, -, flight, captured, rest⟩ := h
    exact ⟨by simp [loadDeparture, runs], fun idle => absurd idle runs, flight, captured, rest⟩
  unfold serveDepartureSet
  split
  · split
    · exact h
    · unfold departureArrival
      dsimp only
      split
      · next idle =>
        obtain ⟨origin, capture, grants, tracker⟩ := h.rested (.inl idle)
        exact scheduleCheck_runTable (State.Rested.scheduled ⟨origin, capture, grants, tracker⟩ rfl rfl)
      · next scheduled => exact scheduleCheck_runTable (loaded _ _ _ _ (by simp [scheduled]))
      · next runs => exact replan_runTable (loaded _ _ _ _ (by simp [runs])) (.inl runs)
      · next runs => exact replan_runTable (loaded _ _ _ _ (by simp [runs])) (.inr runs)
      · exact h
  · exact h

theorem serveReplan_runTable {s : State} (h : s.runTable) : (serveReplan s).1.runTable := by
  unfold serveReplan
  split
  · exact h
  · exact scheduleCheck_runTable h
  · exact h
  · next runs => exact replan_runTable h (.inl runs)
  · next runs => exact replan_runTable h (.inr runs)

theorem serveCancel_runTable {s : State} (h : s.runTable) : (serveCancel s).1.runTable := by
  unfold serveCancel
  split
  · exact h
  · next scheduled =>
    obtain ⟨origin, capture, grants, tracker⟩ := h.rested (.inr scheduled)
    exact State.Rested.enterIdle ⟨origin, capture, grants, tracker⟩
  · exact h
  · exact (endRun_rested _ _).enterIdle
  · exact (endRun_rested _ _).enterIdle

theorem serveSelectBank_runTable {s : State} (h : s.runTable) (b : Byte) : (serveSelectBank b s).1.runTable := by
  unfold serveSelectBank
  split
  · exact h
  · next n _ =>
    have chosen : (activate n s).runTable := h
    unfold bankArrival
    dsimp only
    split
    · exact (computeBudget_keepsRest _ _).runTable chosen
    · exact scheduleCheck_runTable ((computeBudget_keepsRest _ _).runTable chosen)
    · next runs => exact replan_runTable chosen (.inl runs)
    · next runs => exact replan_runTable chosen (.inr runs)
    · exact h

theorem serveRequest_runTable {s : State} (h : s.runTable) (p : Port) (r : Request) (b : List Byte) :
    (serveRequest p r b s).1.runTable := by
  cases r with
  | sensorReport => exact serveSensorReport_runTable h _ _ _ _
  | departureSet => exact serveDepartureSet_runTable h _ _ _ _
  | replan => exact serveReplan_runTable h
  | cancel => exact serveCancel_runTable h
  | selectBank => exact serveSelectBank_runTable h _
  | slotLengthSet => exact scheduleCheck_runTable h
  | actuatorStatus => exact (serveActuatorStatus_keepsRest _ _ _ s).runTable h
  | inhibitClaim => exact (serveInhibitClaim_keepsRest p _ _ s).runTable h
  | floorSet => exact (serveFloorSet_keepsRest _ s).runTable h
  | loadLimitSet => exact (serveLoadLimitSet_keepsRest _ _ s).runTable h
  | clearFault => exact (serveClearFault_keepsRest _ s).runTable h
  | envelope => exact (serveEnvelope_keepsRest _ _ _ _ s).runTable h
  | profileFieldWrite => exact (serveProfileFieldWrite_keepsRest _ _ _ s).runTable h
  | sensorTimeoutSet => exact h
  | _ => exact (KeepsRest.same (by simp [serveRequest]) (by simp [serveRequest]) (by simp [serveRequest])
      (by simp [serveRequest])).runTable h

/-! ### The time base and the resets -/

theorem holdExpiry_keepsRest (s : State) : KeepsRest s (holdExpiry s) := by
  unfold holdExpiry
  dsimp only
  split
  · refine KeepsRest.trans ?_ (computeBudget_keepsRest _ _)
    exact .same rfl rfl rfl rfl
  · exact .same rfl rfl rfl rfl
  · exact .same rfl rfl rfl rfl

/-- Sensor loss puts the tracker in HELD only while grants are live (R122). -/
theorem sensorExpiry_keepsRest (s : State) : KeepsRest s (sensorExpiry s) := by
  unfold sensorExpiry
  dsimp only
  split
  · next live => exact .ofLive live rfl rfl
  · exact .same rfl rfl rfl rfl

theorem startSlot_capture (s : State) : (startSlot s).plan.capture = s.plan.capture := by
  unfold startSlot
  split
  · rfl
  · dsimp only
    rw [forecast_plan, allocateSlot_capture, closeSlot_capture]

theorem startSlot_keepsRest {s : State} (due : slotStartDue s = true) : KeepsRest s (startSlot s) := by
  simp only [slotStartDue, Bool.and_eq_true, Bool.or_eq_true, beq_iff_eq] at due
  have live : s.live = true := by rcases due.1.1.1 with e | e <;> simp [State.live, e]
  exact .ofLive live (by rw [startSlot_run]) (startSlot_capture s)

theorem countTime_runTable {s : State} (h : s.runTable) : (countTime s).runTable := by
  obtain ⟨counts, still, flight, captured, rest⟩ := h
  refine ⟨counts, fun idle => ?_, flight, captured, rest⟩
  have none := still idle
  simp only [countTime, none]
  split <;> rfl

theorem changePhase_runTable {s : State} (h : s.runTable) (due : phaseChangeDue s = true) :
    (changePhase s).runTable := by
  simp only [phaseChangeDue, Bool.and_eq_true, beq_iff_eq] at due
  obtain ⟨⟨conditioning, -⟩, -⟩ := due
  obtain ⟨origin, capture⟩ := h.ungenerated (by simp [conditioning])
  have counting : s.run.counting = true := h.1.mpr (by simp [conditioning])
  exact ⟨by simp [changePhase, counting], by simp [changePhase], by simp [changePhase, origin],
    by simp [changePhase, capture], by simp [State.live, changePhase]⟩

theorem fallReset_runTable (k : ResetKind) (c : ResetCauses) (s : State) : (fallReset k c s).runTable := by
  cases k <;> exact State.Rested.idle ⟨rfl, rfl, rfl, rfl⟩ rfl rfl rfl

theorem release_keepsRest (c : ResetCauses) (x : BitVec 2) (s : State) : KeepsRest s (release c x s) := by
  unfold release appendInterrupted
  dsimp only
  split <;> exact .same rfl rfl rfl rfl

/-- Every part of a step keeps the table of the run states. -/
theorem kept_runTable : Kept State.runTable where
  port _ _ h := h
  bus _ _ h := h
  queue _ _ h := h
  hold _ _ h := h
  overflow _ _ h := h
  serve p r b _ _ h := serveRequest_runTable h p r b
  fall k c s _ := fallReset_runTable k c s
  cause _ _ _ _ h := h
  release c x s _ h := (release_keepsRest c x s).runTable h
  countTime _ _ h := countTime_runTable h
  countGrants _ _ h := h
  tickEnd _ _ h := h
  sensor s _ _ h := (sensorExpiry_keepsRest s).runTable h
  lapse s _ _ h := (holdExpiry_keepsRest s).runTable h
  timeout s _ _ h := (applyRecords_keepsRest _ s).runTable h
  cooldown _ _ _ h := h
  phase _ _ due h := changePhase_runTable h due
  slot _ _ due h := (startSlot_keepsRest due).runTable h
  check _ _ _ h := scheduleCheck_runTable h
  expire _ _ _ h := expire_runTable h
  complete _ _ _ planning _ _ h := completePlan_runTable h planning

end Sys2Proof.Machine

section
open Sys2Proof Sys2Proof.Machine

/-- Settles O57: every part of a step keeps the load block sound with the grants within the budget (`kept_keepsGrants`),
and the table of the run states (`kept_runTable`). -/
theorem everyStepKeepsGrants : Obligations.EveryStepKeepsGrants := by
  intro s t taken within coupled states lawful table
  have sound : s.LoadsSound := ⟨coupled, states, lawful⟩
  have keeps := (kept_keepsGrants s).step (.same rfl rfl) taken
  obtain ⟨coupled', states', lawful'⟩ := keeps.sound sound
  exact ⟨keeps.within sound within, coupled', states', lawful', kept_runTable.step table taken⟩

end

/-! PROOFS. Operations that touch no port, and requests served by them; the properties at a power-on reset with O60, the queue with O1, and the requests open to every port that store
little or nothing: O5, O6, O7, O8, O10. -/

namespace Sys2Proof.Machine


/-! ### Operations that touch no port -/

/-- The two blocks have the same ports with a frame that a generation start would hold (R18). -/
def PortBlock.HoldsLike (b c : PortBlock) : Prop := ∀ p, (b.ports.get p).holdable = (c.ports.get p).holdable

/-- The state with another port block. An operation that touches no port does the same there. -/
def withPort (b : PortBlock) (s : State) : State := { s with port := b }

section
variable (b : PortBlock) (s : State)

@[simp] theorem withPort_run : (withPort b s).run = s.run := rfl
@[simp] theorem withPort_plan : (withPort b s).plan = s.plan := rfl
@[simp] theorem withPort_slots : (withPort b s).slots = s.slots := rfl
@[simp] theorem withPort_loads : (withPort b s).loads = s.loads := rfl
@[simp] theorem withPort_power : (withPort b s).power = s.power := rfl
@[simp] theorem withPort_track : (withPort b s).track = s.track := rfl
@[simp] theorem withPort_store : (withPort b s).store = s.store := rfl
@[simp] theorem withPort_router : (withPort b s).router = s.router := rfl
@[simp] theorem withPort_log : (withPort b s).log = s.log := rfl

theorem issue_withPort (h : Handed) : issue h (withPort b s) = withPort b (issue h s) := rfl

theorem countShed_withPort : countShed (withPort b s) = withPort b (countShed s) := by
  unfold countShed
  simp only [withPort_slots, withPort_plan]
  split <;> rfl

theorem shed_withPort (p : Profile) : shed p (withPort b s) = withPort b (shed p s) := by
  simp only [shed, withPort_power, withPort_loads, issue_withPort, countShed_withPort]
  rfl

theorem computeBudget_withPort (p : Profile) : computeBudget p (withPort b s) = withPort b (computeBudget p s) := by
  unfold computeBudget
  dsimp only
  rw [apply_ite (withPort b), ← shed_withPort]
  rfl

theorem reexamine_withPort (p : Profile) : reexamine p (withPort b s) = withPort b (reexamine p s) := by
  simp only [reexamine, ← computeBudget_withPort, apply_ite (withPort b)]
  rfl

theorem setReadiness_withPort (c : Readiness) (m : Int) :
    setReadiness c m (withPort b s) = withPort b (setReadiness c m s) := by
  simp only [setReadiness, apply_ite (withPort b)]
  rfl

theorem forecast_withPort (p : Profile) (t : Int) (h : Option Nat) :
    forecast p t h (withPort b s) = withPort b (forecast p t h s) := setReadiness_withPort b s _ _

theorem closeSlot_withPort : closeSlot (withPort b s) = withPort b (closeSlot s) := by
  unfold closeSlot
  simp only [withPort_slots]
  split <;> rfl

/-- The start of a generation reads, of the ports, which frames it holds. -/
theorem startGeneration_withPort (same : b.HoldsLike s.port) (o : Origin) :
    startGeneration o (withPort b s) = withPort b (startGeneration o s) := by
  have held : (PerPort.ofFn fun p => (b.ports.get p).holdable) = .ofFn fun p => (s.port.ports.get p).holdable :=
    congrArg PerPort.ofFn (funext same)
  simp only [startGeneration, holdPending, withPort, held]
  rfl

theorem scheduleCheck_withPort (same : b.HoldsLike s.port) :
    scheduleCheck (withPort b s) = withPort b (scheduleCheck s) := by
  unfold scheduleCheck
  simp only [withPort_run]
  split
  · have active : (withPort b s).activeProfile = s.activeProfile := rfl
    have inputs : ∀ p, (withPort b (reexamine p s)).leadInputs = (reexamine p s).leadInputs := fun _ => rfl
    simp only [active, reexamine_withPort, inputs, forecast_withPort]
    rw [apply_ite (withPort b), ← startGeneration_withPort]
    · rfl
    · simpa using same
  all_goals rfl

theorem suspend_withPort (same : b.HoldsLike s.port) :
    suspend (withPort b s) = withPort b (suspend s) := by
  unfold suspend
  dsimp only
  rw [closeSlot_withPort, ← scheduleCheck_withPort, ← computeBudget_withPort]
  · rfl
  · simpa using same

theorem replan_withPort (same : b.HoldsLike s.port) :
    replan (withPort b s) = withPort b (replan s) := by
  simp only [replan, apply_ite (withPort b), ← suspend_withPort b s same, ← startGeneration_withPort b s same]
  rfl

theorem endRun_withPort (cause : EndCause) : endRun cause (withPort b s) = withPort b (endRun cause s) := by
  unfold endRun
  dsimp only
  rw [closeSlot_withPort, ← computeBudget_withPort]
  rfl

theorem enterIdle_withPort : enterIdle (withPort b s) = withPort b (enterIdle s) :=
  setReadiness_withPort b { s with run := { s.run with
    state := .idle, counting := false, remaining := 0, checkDue := false } } _ _

end


/-! ### A request whose service touches no port -/

/-- Taking a frame into service holds what stood: the port was empty, and a frame in service is not held. -/
theorem serving_holdsLike {s : State} {p : Port} (f : Frame) (empty : (s.port.ports.get p).rx = .empty) :
    (serving p f s).port.HoldsLike s.port := by
  intro q
  rcases eq_or_ne q p with rfl | other
  · simp [serving, TargetPort.holdable, empty]
  · simp [serving, other]

/-- A request whose service touches no port: the port answers beside what the service does, and the frames that it
releases are served. -/
theorem request_blind {s t : State} {p : Port} {r : Request} {payload reply : List Byte} (h : s.ready p = true)
    (length : payload.length = r.payload) (role : r.role = none ∨ r.role = some p) (hard : r ≠ .softReset)
    (free : ¬(s.run.state = .planning ∧ heldCode r.code = true))
    (serve : ∀ b : PortBlock, b.HoldsLike s.port → serveRequest p r payload (withPort b s) = (withPort b t, .ok reply))
    (port : t.port = s.port) :
    request p (r.frame payload) s = serveReleased s (answeredOk p r.code reply t) := by
  obtain ⟨-, empty, -, -, -⟩ := (ready_iff s p).mp h
  have pass := checkFrame_frame length role
  have soft : isSoftReset p (r.frame payload) = false := by
    unfold isSoftReset
    rw [pass]
    cases r <;> simp_all
  have served : serveFrame p (r.frame payload) (serving p (r.frame payload) s) =
      (withPort (serving p (r.frame payload) s).port t, .ok reply) := by
    rw [serveFrame, pass]
    exact serve _ (serving_holdsLike _ empty)
  have kept : { withPort (serving p (r.frame payload) s).port t with port := s.port } = t := by rw [← port]; rfl
  have answer := install_serving (t := withPort (serving p (r.frame payload) s).port t)
    ((Reply.ok reply).frame r.code) empty rfl
  rw [kept] at answer
  rw [request_ready (f := r.frame payload) h (by simp [Request.frame]) free soft, served]
  exact congrArg (serveReleased s) answer

/-- The same where every frame that was held stays held: nothing else is served. -/
theorem request_blind_calm {s t : State} {p : Port} {r : Request} {payload reply : List Byte} (h : s.ready p = true)
    (length : payload.length = r.payload) (role : r.role = none ∨ r.role = some p) (hard : r ≠ .softReset)
    (free : ¬(s.run.state = .planning ∧ heldCode r.code = true))
    (serve : ∀ b : PortBlock, b.HoldsLike s.port → serveRequest p r payload (withPort b s) = (withPort b t, .ok reply))
    (port : t.port = s.port) (held : ∀ q, s.run.held.get q = true → t.run.held.get q = true) :
    request p (r.frame payload) s = answeredOk p r.code reply t := by
  rw [request_blind h length role hard free serve port]
  refine serveReleased_none fun q was => ?_
  have still : (answeredOk p r.code reply t).run.held.get q = true := held q was
  unfold State.candidate
  split <;> simp [still]

/-! ### Flags bytes and fixed fields of the responses (09, 9.7) -/

/-- A flags byte of three bits, each with its weight. -/
theorem flagsByte_three (a b c : Bool) : flagsByte [a, b, c] = byteOf (a.toNat + 2 * b.toNat + 4 * c.toNat) := by
  simp only [flagsByte, List.foldr]
  congr 1
  omega

theorem SlotFlags.byte_eq (f : SlotFlags) :
    f.byte = byteOf (f.deficit.toNat + 2 * f.clamped.toNat + 4 * f.shortfall.toNat + 8 * f.noneGranted.toNat
      + 16 * f.openLoop.toNat + 32 * f.fallback.toNat) := by
  simp only [SlotFlags.byte, flagsByte, List.foldr]
  congr 1
  omega

/-- An absent actual part on the wire (R45). -/
theorem actualFields_none : actualFields none = [255, 0, 0, 0, 0, 0, 0, 0, 0, 0, 0, 0, 0, 0, 0x00, 0x80] := by
  decide

/-! ### Load numbers -/

theorem Load.ofNumber_of_six_le {n : Nat} (beyond : 6 ≤ n) : Load.ofNumber n = none := List.getElem?_eq_none beyond

theorem Load.ofNumber_of_eq {n : Nat} {l : Load} (same : n = l.number) : Load.ofNumber n = some l := by
  rw [same]
  cases l <;> rfl

/-! ### Port Mode Set (R169) -/

theorem modeOf_of_two_le {mode : Byte} (beyond : 2 ≤ mode.toNat) : modeOf mode = none := by
  have hold : mode ≠ 0 := fun e => by simp [e] at beyond
  have prepared : mode ≠ 1 := fun e => by simp [e] at beyond
  rw [modeOf, if_neg hold, if_neg prepared]

/-- A port's record with the mode given. -/
def setMode (p : Port) (m : ResponseMode) (s : State) : State := setPort p { s.port.ports.get p with mode := m } s

theorem servePortModeSet_of_mode {mode : Byte} {m : ResponseMode} (known : modeOf mode = some m) (p : Port) (s : State) :
    servePortModeSet p mode s = (setMode p m s, .ok [mode]) := by
  rw [servePortModeSet, known]
  rfl

theorem servePortModeSet_of_two_le {mode : Byte} (beyond : 2 ≤ mode.toNat) (p : Port) (s : State) :
    servePortModeSet p mode s = (s, .refused .range) := by
  rw [servePortModeSet, modeOf_of_two_le beyond]

/-- A service that sets its own port's mode and leaves the rest: the mode and the answer remain. -/
theorem install_setMode_serving {s : State} {p : Port} {f : Frame} (reply : List Byte) (m : ResponseMode)
    (empty : (s.port.ports.get p).rx = .empty) :
    install p reply (setMode p m (serving p f s)) = answered p reply (setMode p m s) := by
  simp [install, setPort, setMode, answered, serving, empty]

theorem exec_portModeSet_ready {s : State} {p : Port} {mode : Byte} {m : ResponseMode} (h : s.ready p = true)
    (known : modeOf mode = some m) :
    exec (.portModeSet p mode) s = .next (answeredOk p 0x04 [mode] (setMode p m s)) := by
  obtain ⟨-, empty, -, -, -⟩ := (ready_iff s p).mp h
  have answer := request_answers (r := .portModeSet) (payload := [mode]) h rfl (.inl rfl) (by decide)
    (by simp [heldCode, Request.code]) (servePortModeSet_of_mode known p _) rfl
  rw [install_setMode_serving _ m empty] at answer
  exact congrArg Host.Outcome.next answer

/-! ### Slot Query and Outcome Query (R45, R190) -/

/-- The bytes of an entry of the slot table, the actual part included (09, 9.7). -/
def slotReport (index : Byte) (e : SlotEntry) : List Byte :=
  [index] ++ le16 (sat16 e.start) ++ le16 (sat16 e.stop) ++ le16 (signed16 e.trajEnd) ++ le16 (sat16 e.forecast)
    ++ actualFields e.actual

/-- The slot table as it stands: empty without a plan. -/
def State.table (s : State) : List SlotEntry := (s.plan.plan.map PlanRecord.slots).getD []

/-- The reply of Slot Query to an entry, or to none (R45). -/
def slotReply (index : Byte) : Option SlotEntry → Reply
  | none => .refused .range
  | some e => .ok (slotReport index e)

theorem serveSlotQuery_eq (index : Byte) (s : State) :
    serveSlotQuery index s = (s, slotReply index s.table[index.toNat]?) := by
  unfold serveSlotQuery State.table
  split
  · next none => simp [none, slotReply]
  · next r some =>
    simp only [some, Option.map_some, Option.getD_some]
    split
    · next beyond => rw [beyond]; rfl
    · next entry => rw [entry]; rfl

theorem exec_slotQuery_ready {s : State} {p : Port} {index : Byte} {found : Option SlotEntry} (h : s.ready p = true)
    (entry : s.table[index.toNat]? = found) :
    exec (.slotQuery p index) s = .next (answered p ((slotReply index found).frame 0x07) s) := by
  subst entry
  exact congrArg Host.Outcome.next
    (request_read (r := .slotQuery) h rfl (.inl rfl) (by decide) rfl (serveSlotQuery_eq index _))

theorem serveOutcomeQuery_of_beyond {index : Byte} {s : State} (beyond : s.log.entries.length ≤ index.toNat) :
    serveOutcomeQuery index s = (s, .refused .range) := by
  rw [serveOutcomeQuery, List.getElem?_eq_none beyond]

/-- The bytes of an outcome entry (10, 10.4; 09, 9.7). -/
def outcomeReport (e : OutcomeEntry) : List Byte :=
  le16 (sat16 e.run) ++ [e.cause.code, byteOf e.bank.val] ++ le16 (temp16 e.tCab) ++ le16 (signed16 e.tSet)
    ++ [e.readiness.code, e.flags, byteOf e.lossCount, byteOf e.sheds] ++ le16 (sat16 e.duration) ++ le16s e.energy

theorem serveOutcomeQuery_of_entry {index : Byte} {s : State} {e : OutcomeEntry}
    (entry : s.log.entries[index.toNat]? = some e) : serveOutcomeQuery index s = (s, .ok (outcomeReport e)) := by
  rw [serveOutcomeQuery, entry]
  rfl

theorem exec_outcomeQuery_ready {s : State} {p : Port} {index : Byte} {reply : Reply} (h : s.ready p = true)
    (serve : serveOutcomeQuery index (serving p (Request.outcomeQuery.frame [index]) s) =
      (serving p (Request.outcomeQuery.frame [index]) s, reply)) :
    exec (.outcomeQuery p index) s = .next (answered p (reply.frame 0x08) s) :=
  congrArg Host.Outcome.next (request_read (r := .outcomeQuery) h rfl (.inl rfl) (by decide) rfl serve)

/-! ### Inhibit Claim (R85 to R87) -/

theorem serveInhibitClaim_of_load {load : Byte} (beyond : 6 ≤ load.toNat) (p : Port) (action : Byte) (s : State) :
    serveInhibitClaim p load action s = (s, .refused .range) := by
  rw [serveInhibitClaim, Load.ofNumber_of_six_le beyond]

theorem serveInhibitClaim_of_action {action : Byte} (beyond : 3 ≤ action.toNat) (p : Port) (load : Byte) (s : State) :
    serveInhibitClaim p load action s = (s, .refused .range) := by
  rw [serveInhibitClaim]
  split
  · rfl
  · exact if_pos beyond

theorem exec_inhibitClaim_rejected {s : State} {p : Port} {load action : Byte} (h : s.ready p = true)
    (serve : ∀ t, serveInhibitClaim p load action t = (t, .refused .range)) :
    request p (Request.inhibitClaim.frame [load, action]) s = refused p 0x13 0x05 s :=
  request_rejected (r := .inhibitClaim) (payload := [load, action]) h rfl (.inl rfl) (by decide)
    (by simp [heldCode, Request.code]) (serve _)

/-- The claims that an issue leaves are those that it found. -/
theorem issue_claims (handed : Handed) (s : State) (l : Load) :
    ((issue handed s).loads.records.get l).claims = (s.loads.records.get l).claims := by
  simp [issue, issueFrom, LoadBlock.issued, afterGrant_claims]

theorem setClaims_claims (l : Load) (claims : PerPort Bool) (s : State) :
    ((setClaims l claims s).loads.records.get l).claims = claims := by
  simp [setClaims]

theorem claimSet_of_kept {p : Port} {l : Load} {s : State}
    (kept : (s.loads.records.get l).inhibited = true ∨ s.loads.grants.get l = 0) :
    claimSet p l s = setClaims l ((s.loads.records.get l).claims.set p true) s := by
  refine if_neg fun first => ?_
  rcases kept with claimed | none
  · simp only [LoadRecord.inhibited] at claimed
    simp [claimed] at first
  · exact first.2 none

theorem claimSet_of_first {p : Port} {l : Load} {s : State} (free : (s.loads.records.get l).inhibited = false)
    (grant : s.loads.grants.get l ≠ 0) :
    claimSet p l s = issue (Handed.nothing.set l (some (0, .inhibited)))
      (setClaims l ((s.loads.records.get l).claims.set p true) s) := by
  refine if_pos ⟨?_, grant⟩
  simpa [LoadRecord.inhibited] using free

/-- The reply of an accepted Inhibit Claim, from the record before and the claims after (R85). -/
def claimReport (p : Port) (load : Byte) (r : LoadRecord) (claims : PerPort Bool) : List Byte :=
  [load, flagByte (r.claims.get p), flagByte (claims.set p false).nonempty, portSetByte claims]

theorem serveInhibitClaim_set {load : Byte} {l : Load} (known : load.toNat = l.number) (p : Port) (s : State) :
    serveInhibitClaim p load 1 s = (claimSet p l s, .ok (claimReport p load (s.loads.records.get l)
      ((s.loads.records.get l).claims.set p true))) := by
  have claims : ((claimSet p l s).loads.records.get l).claims = (s.loads.records.get l).claims.set p true := by
    unfold claimSet
    dsimp only
    split
    · rw [issue_claims, setClaims_claims]
    · rw [setClaims_claims]
  rw [serveInhibitClaim, Load.ofNumber_of_eq known]
  simp [claimReply, claimReport, claims]

theorem serveInhibitClaim_clear {load : Byte} {l : Load} (known : load.toNat = l.number) (p : Port) (s : State) :
    serveInhibitClaim p load 2 s = (claimClear p l s, .ok (claimReport p load (s.loads.records.get l)
      ((s.loads.records.get l).claims.set p false))) := by
  rw [serveInhibitClaim, Load.ofNumber_of_eq known]
  simp [claimReply, claimReport, claimClear, setClaims_claims]

theorem serveInhibitClaim_test {load : Byte} {l : Load} (known : load.toNat = l.number) (p : Port) (s : State) :
    serveInhibitClaim p load 0 s =
      (s, .ok (claimReport p load (s.loads.records.get l) (s.loads.records.get l).claims)) := by
  rw [serveInhibitClaim, Load.ofNumber_of_eq known]
  simp [claimReply, claimReport]

theorem exec_inhibitClaim_accepted {s t : State} {p : Port} {load action : Byte} {reply : List Byte}
    (h : s.ready p = true) (port : t.port = s.port) (run : t.run = s.run)
    (serve : ∀ b, serveInhibitClaim p load action (withPort b s) = (withPort b t, .ok reply)) :
    request p (Request.inhibitClaim.frame [load, action]) s = answeredOk p 0x05 reply t :=
  request_blind_calm (r := .inhibitClaim) h rfl (.inl rfl) (by decide) (by simp [heldCode, Request.code])
    (fun b _ => serve b) port (fun q => by rw [run]; exact id)

end Sys2Proof.Machine

section
open Sys2Proof Sys2Proof.Machine

/-- Settles O60: the power-on values have no grant, lawful limits (`powerOn_limitsLawful`), banks in range
(`powerOn_banks_inRange`), RESET_DONE within every default mask (`atRelease_masked`), and an empty log. -/
theorem keptPropertiesHoldAtReset : Obligations.KeptPropertiesHoldAtReset := by
  have grants : ∀ l, State.reset.loads.grants.get l = 0 := fun l => PerLoad.get_all 0 l
  refine ⟨Nat.zero_le _, fun _ => ⟨rfl, rfl⟩, fun l => ⟨?_, fun _ => grants l⟩,
    (grantsLawful_iff _).mpr ⟨fun l => ?_, powerOn_limitsLawful⟩, ?_, ⟨rfl, rfl, rfl, rfl⟩, ?_, powerOn_banks_inRange,
    atRelease_masked, ?_⟩
  · have record : State.reset.loads.records.get l = LoadRecord.clear := PerLoad.get_all _ l
    simp [grants l, record, LoadRecord.clear]
  · rw [grants l]
    cases l <;> exact .inl rfl
  · exact State.Rested.idle ⟨rfl, rfl, rfl, rfl⟩ rfl rfl rfl
  · simp [State.trackerTable, State.reset, TrackBlock.powerOn]
  · simp [State.logInOrder, State.reset, LogBlock.powerOn, RunBlock.powerOn, numbersLeadTo]

/-- Settles O1: the two branches of `step`. -/
theorem stepTakesFrontCommand : Obligations.StepTakesFrontCommand := by
  refine ⟨fun c rest s => rfl, fun s empty => ?_⟩
  rw [step, empty]

/-- Settles O5: the two known modes (`exec_portModeSet_ready`), and the refusal of the others. -/
theorem portModeSetStoresMode : Obligations.PortModeSetStoresMode := by
  intro p s ready stored
  exact ⟨exec_portModeSet_ready ready rfl, exec_portModeSet_ready ready rfl, fun mode beyond =>
    congrArg Host.Outcome.next (request_rejected (r := .portModeSet) (payload := [mode]) ready rfl (.inl rfl) (by decide)
      (by simp [heldCode, Request.code]) (servePortModeSet_of_two_le beyond p _))⟩

/-- Settles O6: the refusals, then SET with and without a removal (`claimSet_of_first`, `claimSet_of_kept`), CLEAR and
TEST. -/
theorem inhibitClaimChangesClaimSet : Obligations.InhibitClaimChangesClaimSet := by
  intro p load s ready
  have rejected : ∀ action : Byte, 6 ≤ load.toNat →
      request p (Request.inhibitClaim.frame [load, action]) s = refused p 0x13 0x05 s := fun action beyond =>
    exec_inhibitClaim_rejected ready (serveInhibitClaim_of_load beyond p action)
  refine ⟨fun action beyond => ?_, fun beyond => ⟨congrArg Host.Outcome.next (rejected 1 beyond),
    congrArg Host.Outcome.next (rejected 2 beyond), congrArg Host.Outcome.next (rejected 0 beyond)⟩, fun l known => ?_⟩
  · exact congrArg Host.Outcome.next (exec_inhibitClaim_rejected ready (serveInhibitClaim_of_action beyond p load))
  intro record reply claimed added removed
  have replies : ∀ b, claimReport p load record (record.claims.set p b) = reply (record.claims.set p b) := fun b => by
    simp [claimReport, reply]
  refine ⟨fun kept => ?_, fun free grant => ?_, ?_, ?_⟩
  · rw [← replies true]
    refine congrArg Host.Outcome.next (exec_inhibitClaim_accepted ready rfl rfl fun b => ?_)
    rw [serveInhibitClaim_set known, claimSet_of_kept (s := withPort b s) kept]
    rfl
  · rw [← replies true]
    refine congrArg Host.Outcome.next (exec_inhibitClaim_accepted ready rfl rfl fun b => ?_)
    rw [serveInhibitClaim_set known, claimSet_of_first (s := withPort b s) free grant]
    rfl
  · rw [← replies false]
    exact congrArg Host.Outcome.next
      (exec_inhibitClaim_accepted ready rfl rfl fun b => serveInhibitClaim_clear known p (withPort b s))
  · have test := fun b => serveInhibitClaim_test known p (withPort b s)
    exact congrArg Host.Outcome.next (exec_inhibitClaim_accepted ready rfl rfl test)

/-- Settles O7: the answer is the table's entry at the index (`serveSlotQuery_eq`), whose actual part is absent
(`actualFields_none`) or written out with its flags (`SlotFlags.byte_eq`). -/
theorem slotQueryReportsEntry : Obligations.SlotQueryReportsEntry := by
  intro p index s ready table
  refine ⟨fun beyond => ?_, fun e entry => ⟨fun absent => ?_, fun a actual => ?_⟩⟩
  · exact exec_slotQuery_ready ready (List.getElem?_eq_none beyond)
  · rw [exec_slotQuery_ready ready entry, slotReply, slotReport, absent, actualFields_none]
    rfl
  · rw [exec_slotQuery_ready ready entry, slotReply, slotReport, actual, actualFields, SlotFlags.byte_eq]
    simp only [← List.append_assoc]
    rfl

/-- Settles O8: the entry at the index, newest first, with its flags written out bit by bit. -/
theorem outcomeQueryReportsEntry : Obligations.OutcomeQueryReportsEntry := by
  intro p index s ready
  refine ⟨fun beyond => exec_outcomeQuery_ready ready (serveOutcomeQuery_of_beyond beyond), fun e entry => ?_⟩
  rw [exec_outcomeQuery_ready ready (serveOutcomeQuery_of_entry entry), outcomeReport, OutcomeEntry.flags,
    flagsByte_three]
  rfl

/-- Settles O10: the three flags with their weights, and the record without them. -/
theorem resetCauseQueryAndClear : Obligations.ResetCauseQueryAndClear := by
  intro p s ready causes
  refine ⟨?_, ?_⟩
  · rw [← flagsByte_three]
    exact congrArg Host.Outcome.next (request_read (r := .resetCauseQuery) ready rfl (.inl rfl) (by decide) rfl rfl)
  · exact congrArg Host.Outcome.next (request_accepted (r := .resetCauseClear) ready rfl (.inl rfl) (by decide)
      (by simp [heldCode, Request.code]) rfl rfl rfl)

end

/-! PROOFS. Requests that store a setting, and what an issue or a shed follows it with: Clear Fault (O24), COP Entry Write
and Sensor Timeout Set (O25), Load Limit Set (O26), Envelope (O13), Profile Field Write (O35), Slot Length Set (O36). -/

namespace Sys2Proof.Machine

/-! ### Clear Fault (R83) -/

theorem serveClearFault_of_load {load : Byte} (beyond : 6 ≤ load.toNat) (s : State) :
    serveClearFault load s = (s, .refused .range) := by
  rw [serveClearFault, Load.ofNumber_of_six_le beyond]

theorem serveClearFault_of_state {load : Byte} {l : Load} {s : State} (known : load.toNat = l.number)
    (well : (s.loads.records.get l).state ≠ .faulted) : serveClearFault load s = (s, .refused .state) := by
  rw [serveClearFault, Load.ofNumber_of_eq known]
  exact if_neg well

theorem serveClearFault_of_fault {load : Byte} {l : Load} {cause : FaultCause} {s : State}
    (known : load.toNat = l.number) (faulted : (s.loads.records.get l).state = .faulted)
    (named : (s.loads.records.get l).cause = some cause) :
    serveClearFault load s = (setRecord l ((s.loads.records.get l).cleared l) s,
      .ok [load, if l = .hpc then 3 else 0, cause.code]) := by
  have code : ((s.loads.records.get l).cleared l).state.code = if l = .hpc then 3 else 0 := by
    cases l <;> rfl
  rw [serveClearFault, Load.ofNumber_of_eq known]
  simp only [faulted, if_true, named, code, Option.map_some, Option.getD_some]

theorem exec_clearFault_rejected {s : State} {load : Byte} {why : Status} (h : s.ready .climate = true)
    (serve : serveClearFault load (serving .climate (Request.clearFault.frame [load]) s) =
      (serving .climate (Request.clearFault.frame [load]) s, .refused why)) :
    exec (.clearFault .climate load) s = .next (refused .climate why.byte 0x43 s) :=
  congrArg Host.Outcome.next (request_rejected (r := .clearFault) h rfl (.inr rfl) (by decide)
    (by simp [heldCode, Request.code]) serve)

/-! ### COP Entry Write and Sensor Timeout Set (R56, R123) -/

theorem fieldAt_byte_le16 (i : Byte) (w : U16) : fieldAt ([i] ++ le16 w) 1 = w := word16_bytes w

theorem serveCopEntryWrite_of_index {index : Byte} (beyond : 8 ≤ index.toNat) (value : U16) (s : State) :
    serveCopEntryWrite index value s = (s, .refused .range) := if_pos beyond

theorem serveCopEntryWrite_of_entry {index : Byte} (known : index.toNat < 8) (value : U16) (s : State) :
    serveCopEntryWrite index value s =
      ({ s with slots := { s.slots with cop := s.slots.cop.set index.toNat (max 100 (min 500 value.toNat)) } },
        .ok ([index] ++ le16 (sat16 (max 100 (min 500 value.toNat))))) := by
  rw [← clampNat_eq_max_min (by decide)]
  exact if_neg (by omega)

theorem serveRequest_copEntryWrite (index : Byte) (value : U16) (s : State) :
    serveRequest .climate .copEntryWrite ([index] ++ le16 value) s = serveCopEntryWrite index value s := by
  rw [serveRequest, fieldAt_byte_le16]
  rfl

theorem serveSensorTimeoutSet_eq (timeout : Byte) (s : State) :
    serveSensorTimeoutSet timeout s =
      ({ s with track := { s.track with sensorTimeout := max 2 (min 30 timeout.toNat) } },
        .ok [byteOf (max 2 (min 30 timeout.toNat))]) := by
  rw [← clampNat_eq_max_min (by decide)]
  rfl

/-! ### Load Limit Set (R74, R75) -/

theorem setLimit_eq {l : Load} (modulates : l.modulating = true) (b : LoadBlock) (v : Nat) :
    b.setLimit l v = { b with
      hpcLimit := if l = .hpc then v else b.hpcLimit
      airLimit := if l = .air then v else b.airLimit
      batLimit := if l = .bat then v else b.batLimit } := by
  cases l <;> cases modulates <;> rfl

/-- The limit that a Load Limit Set stores (R74). -/
def storedLimit (l : Load) (limit : U16) : Nat := max l.minimum (min l.siliconMax limit.toNat) / l.step * l.step

theorem serveLoadLimitSet_of_load {load : Byte} (beyond : 6 ≤ load.toNat) (limit : U16) (s : State) :
    serveLoadLimitSet load limit s = (s, .refused .range) := by
  rw [serveLoadLimitSet, Load.ofNumber_of_six_le beyond]

theorem serveLoadLimitSet_of_level {load : Byte} {l : Load} (known : load.toNat = l.number)
    (level : l.modulating = false) (limit : U16) (s : State) :
    serveLoadLimitSet load limit s = (s, .refused .range) := by
  rw [serveLoadLimitSet, Load.ofNumber_of_eq known]
  exact if_neg (by simp [level])

theorem serveLoadLimitSet_of_modulating {load : Byte} {l : Load} (known : load.toNat = l.number)
    (modulates : l.modulating = true) (limit : U16) (s : State) :
    serveLoadLimitSet load limit s =
      (setLoadLimit l (storedLimit l limit) s, .ok ([load] ++ le16 (sat16 (storedLimit l limit)))) := by
  have ordered : l.minimum ≤ l.siliconMax := by cases l <;> decide
  rw [serveLoadLimitSet, Load.ofNumber_of_eq known, storedLimit, ← clampNat_eq_max_min ordered]
  exact if_pos modulates

theorem serveRequest_loadLimitSet (load : Byte) (limit : U16) (s : State) :
    serveRequest .climate .loadLimitSet ([load] ++ le16 limit) s = serveLoadLimitSet load limit s := by
  rw [serveRequest, fieldAt_byte_le16]
  rfl

theorem exec_loadLimitSet_rejected {s : State} {load : Byte} {limit : U16} (h : s.ready .climate = true)
    (serve : ∀ t, serveLoadLimitSet load limit t = (t, .refused .range)) :
    exec (.loadLimitSet .climate load limit) s = .next (refused .climate 0x13 0x45 s) :=
  congrArg Host.Outcome.next (request_rejected (r := .loadLimitSet) (payload := [load] ++ le16 limit) h rfl (.inr rfl)
    (by decide) (by simp [heldCode, Request.code]) ((serveRequest_loadLimitSet load limit _).trans (serve _)))

theorem setLoadLimit_withPort (b : PortBlock) (l : Load) (v : Nat) (s : State) :
    setLoadLimit l v (withPort b s) = withPort b (setLoadLimit l v s) := by
  simp only [setLoadLimit, apply_ite (withPort b), ← issue_withPort]
  rfl

theorem setLoadLimit_frame (l : Load) (v : Nat) (s : State) :
    (setLoadLimit l v s).port = s.port ∧ (setLoadLimit l v s).run = s.run := by
  unfold setLoadLimit
  dsimp only
  split <;> exact ⟨rfl, rfl⟩

theorem exec_loadLimitSet_accepted {s : State} {load : Byte} {l : Load} (h : s.ready .climate = true)
    (known : load.toNat = l.number) (modulates : l.modulating = true) (limit : U16) :
    exec (.loadLimitSet .climate load limit) s =
      .next (answeredOk .climate 0x45 ([load] ++ le16 (sat16 (storedLimit l limit)))
        (setLoadLimit l (storedLimit l limit) s)) := by
  obtain ⟨port, run⟩ := setLoadLimit_frame l (storedLimit l limit) s
  refine congrArg Host.Outcome.next (request_blind_calm (r := .loadLimitSet) (payload := [load] ++ le16 limit) h rfl
    (.inr rfl) (by decide) (by simp [heldCode, Request.code]) (fun b _ => ?_) port fun q => by rw [run]; exact id)
  rw [serveRequest_loadLimitSet, serveLoadLimitSet_of_modulating known modulates, setLoadLimit_withPort]

theorem setLoadLimit_of_kept {l : Load} {v : Nat} {s : State} (within : s.loads.grants.get l ≤ v) :
    setLoadLimit l v s = { s with loads := s.loads.setLimit l v } := if_neg (not_lt.mpr within)

theorem setLoadLimit_of_cut {l : Load} {v : Nat} {s : State} (above : v < s.loads.grants.get l) :
    setLoadLimit l v s = issue (Handed.nothing.set l (some (v, cutReason (s.loads.reasons.get l))))
      { s with loads := s.loads.setLimit l v } := if_pos above

/-! ### Envelope (R98, R102, R105) -/

theorem linkOf_of_two_le {link : Byte} (beyond : 2 ≤ link.toNat) : linkOf link = none := by
  have off : link ≠ 0 := fun e => by simp [e] at beyond
  have on : link ≠ 1 := fun e => by simp [e] at beyond
  rw [linkOf, if_neg off, if_neg on]

/-- A byte below 2 is 0 or 1. -/
theorem byte_of_lt_two {w : Byte} (known : w.toNat < 2) : w = 0 ∨ w = 1 := by
  rcases Nat.lt_succ_iff.mp known |>.lt_or_eq with low | high
  · exact .inl (BitVec.eq_of_toNat_eq (by simpa using low))
  · exact .inr (BitVec.eq_of_toNat_eq (by simpa using high))

theorem linkOf_of_lt_two {link : Byte} (known : link.toNat < 2) : linkOf link = some (decide (link.toNat = 1)) := by
  rcases byte_of_lt_two known with rfl | rfl <;> rfl

theorem takenHold_eq (hold : Nat) : takenHold hold = if hold = 0 then 1 else min hold 600 := by
  unfold takenHold clampNat
  split_ifs <;> omega

/-- The envelope that a request carries, as the monitor takes it (R98). -/
def takenEnvelope (link : Byte) (grid pack hold : U16) : Envelope :=
  ⟨decide (link.toNat = 1), grid.toNat, pack.toNat, takenHold hold.toNat⟩

theorem takenEnvelope_power (link : Byte) (grid pack hold : U16) (p : Profile) :
    (takenEnvelope link grid pack hold).power p =
      (if link.toNat = 1 then grid.toNat else 0) + (if p.allowPack = 0 then 0 else pack.toNat) := by
  simp [takenEnvelope, Envelope.power]

theorem serveRequest_envelope (link : Byte) (grid pack hold : U16) (s : State) :
    serveRequest .supply .envelope ([link] ++ le16 grid ++ le16 pack ++ le16 hold) s =
      serveEnvelope link grid pack hold s := by
  have first : fieldAt ([link] ++ le16 grid ++ le16 pack ++ le16 hold) 1 = grid := word16_bytes grid
  have second : fieldAt ([link] ++ le16 grid ++ le16 pack ++ le16 hold) 3 = pack := word16_bytes pack
  have third : fieldAt ([link] ++ le16 grid ++ le16 pack ++ le16 hold) 5 = hold := word16_bytes hold
  rw [serveRequest, first, second, third]
  rfl

/-- The power block when an envelope has arrived outside LOST, before the budget is computed (R102). -/
def livePower (e : Envelope) (b : PowerBlock) : PowerBlock :=
  { b with latest := some e, holdTimer := some e.hold, state := .live, source := .live }

theorem envelopeArrival_of_live {e : Envelope} {s : State} (heard : s.power.state ≠ .lost) :
    envelopeArrival e s = computeBudget s.inForce { s with power := livePower e s.power } := by
  unfold envelopeArrival
  dsimp only
  split
  · rfl
  · rfl
  · next lost => exact absurd lost heard

theorem envelopeArrival_of_lost {e : Envelope} {s : State} (lost : s.power.state = .lost) :
    envelopeArrival e s = { s with power := { s.power with latest := some e, holdTimer := some e.hold } } := by
  simp only [envelopeArrival, lost]

theorem envelopeArrival_withPort (b : PortBlock) (e : Envelope) (s : State) :
    envelopeArrival e (withPort b s) = withPort b (envelopeArrival e s) := by
  by_cases lost : s.power.state = .lost
  · rw [envelopeArrival_of_lost lost, envelopeArrival_of_lost (s := withPort b s) lost]
    rfl
  · rw [envelopeArrival_of_live lost, envelopeArrival_of_live (s := withPort b s) lost, ← computeBudget_withPort]
    rfl

theorem serveEnvelope_of_link {link : Byte} (known : link.toNat < 2) (grid pack hold : U16) (s : State) :
    serveEnvelope link grid pack hold s =
      (envelopeArrival (takenEnvelope link grid pack hold) s,
        .ok ([(envelopeArrival (takenEnvelope link grid pack hold) s).power.state.code,
          (envelopeArrival (takenEnvelope link grid pack hold) s).power.source.code]
          ++ le16 (sat16 (envelopeArrival (takenEnvelope link grid pack hold) s).power.budget))) := by
  rw [serveEnvelope, linkOf_of_lt_two known]
  rfl

theorem exec_envelope_rejected {s : State} {link : Byte} (h : s.ready .supply = true) (beyond : 2 ≤ link.toNat)
    (grid pack hold : U16) :
    exec (.envelope .supply link grid pack hold) s = .next (refused .supply 0x13 0x20 s) := by
  have serve : ∀ t, serveEnvelope link grid pack hold t = (t, .refused .range) := fun t => by
    rw [serveEnvelope, linkOf_of_two_le beyond]
  exact congrArg Host.Outcome.next (request_rejected (r := .envelope)
    (payload := [link] ++ le16 grid ++ le16 pack ++ le16 hold) h rfl (.inr rfl) (by decide)
    (by simp [heldCode, Request.code]) ((serveRequest_envelope link grid pack hold _).trans (serve _)))

theorem exec_envelope_accepted {s t : State} {link : Byte} {grid pack hold : U16} (h : s.ready .supply = true)
    (known : link.toNat < 2) (arrival : envelopeArrival (takenEnvelope link grid pack hold) s = t) :
    exec (.envelope .supply link grid pack hold) s =
      .next (answeredOk .supply 0x20 ([t.power.state.code, t.power.source.code] ++ le16 (sat16 t.power.budget)) t) := by
  have served := serveEnvelope_of_link known grid pack hold
  have left : t = (serveEnvelope link grid pack hold s).1 := by rw [served, arrival]
  refine congrArg Host.Outcome.next (request_blind_calm (r := .envelope)
    (payload := [link] ++ le16 grid ++ le16 pack ++ le16 hold) h rfl (.inr rfl) (by decide)
    (by simp [heldCode, Request.code]) (fun b _ => ?_) (by rw [left, serveEnvelope_port])
    fun q => by rw [left, serveEnvelope_run]; exact id)
  rw [serveRequest_envelope, served, envelopeArrival_withPort, arrival]
  rfl

/-- A budget below the sum of the grants sheds in the same event (R108). -/
theorem computeBudget_sheds (p : Profile) (s : State) (h : s.power.budgetFor p < s.loads.grants.sum) :
    computeBudget p s = shed p { s with power := { s.power with budget := s.power.budgetFor p } } := if_pos h

/-! ### Profile Field Write (R142, R143, R147 to R149) -/

/-- The fields by id that are signed, and those that enter the budget (R99, R143). -/
theorem Field.ofId_facts {n : Nat} {f : Field} (known : Field.all[n]? = some f) :
    (f.signed = true ↔ n = 0 ∨ n = 6 ∨ n = 24) ∧ (f.inBudget = true ↔ 13 ≤ n ∧ n ≤ 15) := by
  have facts : ∀ i : Fin Field.all.length, (Field.all[i].signed = true ↔ i.val = 0 ∨ i.val = 6 ∨ i.val = 24) ∧
      (Field.all[i].inBudget = true ↔ 13 ≤ i.val ∧ i.val ≤ 15) := by decide
  obtain ⟨inside, same⟩ := List.getElem?_eq_some_iff.mp known
  exact same ▸ facts ⟨n, inside⟩

theorem serveProfileFieldWrite_of_bank {bank : Byte} (beyond : 4 ≤ bank.toNat) (field : Byte) (value : U16) (s : State) :
    serveProfileFieldWrite bank field value s = (s, .refused .range) := by
  rw [serveProfileFieldWrite, bankOf_of_four_le beyond]

theorem serveProfileFieldWrite_of_field {bank field : Byte} (known : bank.toNat < 4) (beyond : 25 ≤ field.toNat)
    (value : U16) (s : State) : serveProfileFieldWrite bank field value s = (s, .refused .field) := by
  have lawful : bankOf bank = some ⟨bank.toNat, known⟩ := bankOf_of_toNat_eq rfl
  rw [serveProfileFieldWrite, lawful, Field.ofId_of_le beyond]

theorem serveProfileFieldWrite_of_known {bank field : Byte} {b : Fin 4} {f : Field} (lawful : bank.toNat = b.val)
    (known : Field.ofId field.toNat = some f) (value : U16) (s : State) :
    serveProfileFieldWrite bank field value s = (writeField b f (f.stored value) s,
      .ok ([bank, field] ++ le16 (signed16 (f.stored value))
        ++ [flagByte (decide (f.stored value ≠ f.written value))])) := by
  rw [serveProfileFieldWrite, bankOf_of_toNat_eq lawful, known]

theorem serveRequest_profileFieldWrite (bank field : Byte) (value : U16) (s : State) :
    serveRequest .dispatch .profileFieldWrite ([bank, field] ++ le16 value) s =
      serveProfileFieldWrite bank field value s := by
  have third : fieldAt ([bank, field] ++ le16 value) 2 = value := word16_bytes value
  rw [serveRequest, third]
  rfl

theorem exec_profileFieldWrite_rejected {s : State} {bank field : Byte} {value : U16} {why : Status}
    (h : s.ready .dispatch = true) (serve : ∀ t, serveProfileFieldWrite bank field value t = (t, .refused why)) :
    exec (.profileFieldWrite .dispatch bank field value) s = .next (refused .dispatch why.byte 0x63 s) :=
  congrArg Host.Outcome.next (request_rejected (r := .profileFieldWrite) (payload := [bank, field] ++ le16 value) h rfl
    (.inr rfl) (by decide) (by simp [heldCode, Request.code])
    ((serveRequest_profileFieldWrite bank field value _).trans (serve _)))

/-- The state with a profile in a bank. -/
def withBank (b : Fin 4) (p : Profile) (s : State) : State :=
  { s with store := { s.store with banks := s.store.banks.set b p } }

theorem writeField_of_kept {b : Fin 4} {f : Field} {v : Int} {s : State}
    (kept : ¬(f.inBudget = true ∧ b = s.store.active ∧ s.live = false)) :
    writeField b f v s = withBank b ((s.store.banks.get b).set f v) s := if_neg (by simpa using kept)

theorem writeField_of_inForce {b : Fin 4} {f : Field} {v : Int} {s : State} (budget : f.inBudget = true)
    (active : b = s.store.active) (dead : s.live = false) :
    writeField b f v s =
      computeBudget ((s.store.banks.get b).set f v) (withBank b ((s.store.banks.get b).set f v) s) := by
  have current : (withBank b ((s.store.banks.get b).set f v) s).activeProfile = (s.store.banks.get b).set f v := by
    simp [State.activeProfile, withBank, Banks.get_set, active]
  rw [← congrArg (computeBudget · (withBank b ((s.store.banks.get b).set f v) s)) current]
  exact if_pos ⟨budget, active, by simp [dead]⟩

theorem writeField_withPort (c : PortBlock) (b : Fin 4) (f : Field) (v : Int) (s : State) :
    writeField b f v (withPort c s) = withPort c (writeField b f v s) := by
  by_cases inForce : f.inBudget = true ∧ b = s.store.active ∧ s.live = false
  · obtain ⟨budget, active, dead⟩ := inForce
    rw [writeField_of_inForce budget active dead, writeField_of_inForce (s := withPort c s) budget active dead,
      ← computeBudget_withPort]
    rfl
  · rw [writeField_of_kept inForce, writeField_of_kept (s := withPort c s) inForce]
    rfl

theorem exec_profileFieldWrite_accepted {s t : State} {bank field : Byte} {b : Fin 4} {f : Field} {value : U16}
    (h : s.ready .dispatch = true) (lawful : bank.toNat = b.val) (known : Field.ofId field.toNat = some f)
    (written : writeField b f (f.stored value) s = t) :
    exec (.profileFieldWrite .dispatch bank field value) s =
      .next (answeredOk .dispatch 0x63 ([bank, field] ++ le16 (signed16 (f.stored value))
        ++ [flagByte (decide (f.stored value ≠ f.written value))]) t) := by
  have served := serveProfileFieldWrite_of_known lawful known value
  have left : t = (serveProfileFieldWrite bank field value s).1 := by rw [served, written]
  refine congrArg Host.Outcome.next (request_blind_calm (r := .profileFieldWrite)
    (payload := [bank, field] ++ le16 value) h rfl (.inr rfl) (by decide) (by simp [heldCode, Request.code])
    (fun c _ => ?_) (by rw [left, serveProfileFieldWrite_port])
    fun q => by rw [left, serveProfileFieldWrite_run]; exact id)
  rw [serveRequest_profileFieldWrite, served, writeField_withPort, written]

/-! ### Slot Length Set (R24) -/

/-- The allowed slot lengths (R24). -/
def slotLengths : List Nat := [30, 60, 120, 240]

/-- The stored length is nearer than each other one, or as near and lower. -/
theorem nearestSlotLength_nearest (v : Nat) : nearestSlotLength v ∈ slotLengths ∧
    ∀ other ∈ slotLengths, other ≠ nearestSlotLength v →
      ((v : Int) - nearestSlotLength v).natAbs < ((v : Int) - other).natAbs ∨
      ((v : Int) - nearestSlotLength v).natAbs = ((v : Int) - other).natAbs ∧ nearestSlotLength v < other := by
  unfold nearestSlotLength
  split_ifs <;> refine ⟨by decide, fun other allowed different => ?_⟩ <;>
    simp only [slotLengths, List.mem_cons, List.not_mem_nil, or_false] at allowed <;> omega

@[simp] theorem computeBudget_slotLength (p : Profile) (s : State) :
    (computeBudget p s).plan.slotLength = s.plan.slotLength := by
  unfold computeBudget
  dsimp only
  split
  · rw [shed_plan]
    unfold countShed
    split <;> rfl
  · rfl

@[simp] theorem reexamine_slotLength (p : Profile) (s : State) : (reexamine p s).plan.slotLength = s.plan.slotLength := by
  unfold reexamine
  dsimp only
  split <;> exact computeBudget_slotLength _ _

@[simp] theorem scheduleCheck_slotLength (s : State) : (scheduleCheck s).plan.slotLength = s.plan.slotLength := by
  unfold scheduleCheck
  split
  · dsimp only
    split <;> simp [startGeneration, holdPending]
  all_goals rfl

theorem scheduleCheck_of_other {s : State} (other : s.run.state ≠ .scheduled) : scheduleCheck s = s := by
  unfold scheduleCheck
  split
  · next scheduled => exact absurd scheduled other
  all_goals rfl

theorem serveRequest_slotLengthSet (seconds : U16) (s : State) :
    serveRequest .dispatch .slotLengthSet (le16 seconds) s = serveSlotLengthSet seconds s := by
  rw [serveRequest, fieldAt_le16]

/-- The state with a slot length setting. -/
def withSlotLength (n : Nat) (s : State) : State := { s with plan := { s.plan with slotLength := n } }

theorem exec_slotLengthSet_ready {s : State} (seconds : U16) (h : s.ready .dispatch = true)
    (free : s.run.held = .all false) :
    exec (.slotLengthSet .dispatch seconds) s =
      .next (answeredOk .dispatch 0x64 (le16 (sat16 (nearestSlotLength seconds.toNat)))
        (scheduleCheck (withSlotLength (nearestSlotLength seconds.toNat) s))) := by
  refine congrArg Host.Outcome.next (request_blind_calm (r := .slotLengthSet) (payload := le16 seconds) h rfl
    (.inr rfl) (by decide) (by simp [heldCode, Request.code]) (fun b same => ?_) (by simp [withSlotLength])
    fun q was => by simp [free] at was)
  rw [serveRequest_slotLengthSet]
  have checked := scheduleCheck_withPort b (withSlotLength (nearestSlotLength seconds.toNat) s) same
  have length : (scheduleCheck (withPort b (withSlotLength (nearestSlotLength seconds.toNat) s))).plan.slotLength =
      nearestSlotLength seconds.toNat := scheduleCheck_slotLength _
  exact Prod.ext checked (congrArg (fun n => Reply.ok (le16 (sat16 n))) length)

end Sys2Proof.Machine

section
open Sys2Proof Sys2Proof.Machine

/-- Settles O24: the two refusals, and the cleared record (`serveClearFault_of_fault`). -/
theorem clearFaultRestoresLoad : Obligations.ClearFaultRestoresLoad := by
  intro load s ready sent
  refine ⟨fun beyond => exec_clearFault_rejected ready (serveClearFault_of_load beyond _), fun l known =>
    ⟨fun well => exec_clearFault_rejected ready (serveClearFault_of_state known well), fun cause faulted named => ?_⟩⟩
  exact congrArg Host.Outcome.next (request_blind_calm (r := .clearFault) (payload := [load]) ready rfl (.inr rfl)
    (by decide) (by simp [heldCode, Request.code])
    (fun b _ => serveClearFault_of_fault (s := withPort b s) known faulted named) rfl fun _ => id)

/-- Settles O25: each service clamps and stores its one value. -/
theorem copEntryAndSensorTimeoutStored : Obligations.CopEntryAndSensorTimeoutStored := by
  intro index timeout value s ready cop seconds
  refine ⟨fun beyond => ?_, fun known => ?_, ?_⟩
  · exact congrArg Host.Outcome.next (request_rejected (r := .copEntryWrite) (payload := [index] ++ le16 value) ready rfl
      (.inr rfl) (by decide) (by simp [heldCode, Request.code])
      ((serveRequest_copEntryWrite index value _).trans (serveCopEntryWrite_of_index beyond value _)))
  · exact congrArg Host.Outcome.next (request_accepted (r := .copEntryWrite) (payload := [index] ++ le16 value) ready rfl
      (.inr rfl) (by decide) (by simp [heldCode, Request.code])
      ((serveRequest_copEntryWrite index value _).trans (serveCopEntryWrite_of_entry known value _)) rfl rfl)
  · exact congrArg Host.Outcome.next (request_accepted (r := .sensorTimeoutSet) (payload := [timeout]) ready rfl
      (.inr rfl) (by decide) (by simp [heldCode, Request.code]) (serveSensorTimeoutSet_eq timeout _) rfl rfl)

/-- Settles O26: the refusals, and the stored limit with or without a cut (`setLoadLimit_of_cut`,
`setLoadLimit_of_kept`). -/
theorem loadLimitSetCutsGrant : Obligations.LoadLimitSetCutsGrant := by
  intro load limit s ready sent
  refine ⟨fun beyond => exec_loadLimitSet_rejected ready (serveLoadLimitSet_of_load beyond limit), fun l known =>
    ⟨fun level => exec_loadLimitSet_rejected ready (serveLoadLimitSet_of_level known level limit), fun modulates => ?_⟩⟩
  intro stored reply limited reason
  have served := exec_loadLimitSet_accepted ready known modulates limit
  refine ⟨fun within => served.trans ?_, fun above => served.trans ?_⟩
  · rw [setLoadLimit_of_kept (v := storedLimit l limit) within, setLimit_eq modulates]
    rfl
  · rw [setLoadLimit_of_cut (v := storedLimit l limit) above, setLimit_eq modulates]
    rfl

/-- Settles O13: the arrival outside LOST computes the budget from it, with or without a shed; in LOST it is stored
alone. -/
theorem envelopeArrivalSetsBudget : Obligations.EnvelopeArrivalSetsBudget := by
  intro link grid pack hold s ready sent taken latest offered budget live reply
  have same : takenEnvelope link grid pack hold = latest := by
    rw [takenEnvelope, takenHold_eq]
  have funded : (livePower latest s.power).budgetFor s.inForce = budget := by
    rw [← same]
    exact congrArg (· - s.inForce.wRes) (takenEnvelope_power link grid pack hold s.inForce)
  have arrived : { { s with power := livePower latest s.power } with
      power := { livePower latest s.power with budget := (livePower latest s.power).budgetFor s.inForce } } = live := by
    rw [funded]
    rfl
  refine ⟨fun beyond => ?_, fun known heard within => ?_, fun known heard below => ?_, fun known lost => ?_⟩
  · exact exec_envelope_rejected ready beyond grid pack hold
  · refine exec_envelope_accepted (t := live) ready known ?_
    rw [same, envelopeArrival_of_live heard, computeBudget_keeps (s := { s with power := livePower latest s.power }) _
      (le_of_le_of_eq within funded.symm)]
    exact arrived
  · have answer := exec_envelope_accepted (t := shed s.inForce live) ready known (by
      rw [same, envelopeArrival_of_live heard, computeBudget_sheds (s := { s with power := livePower latest s.power }) _
        (lt_of_eq_of_lt funded below)]
      exact congrArg (shed s.inForce) arrived)
    rw [shed_power] at answer
    exact answer
  · have answer := exec_envelope_accepted ready known (envelopeArrival_of_lost (e := takenEnvelope link grid pack hold) lost)
    have code : s.power.state.code = 2 := by rw [lost]; rfl
    rw [same] at answer
    exact answer.trans (congrArg (fun c => Host.Outcome.next
      (answeredOk .supply 0x20 ([c, s.power.source.code] ++ le16 (sat16 s.power.budget)) _)) code)

/-- Settles O35: the refusals, what the bank holds after the write (`Profile.get_set_stored`, `Profile.get_set`), and the
write with or without the budget (`writeField_of_inForce`, `writeField_of_kept`). -/
theorem profileFieldWriteStoresClamped : Obligations.ProfileFieldWriteStoresClamped := by
  intro bank field value s ready sent
  refine ⟨fun beyond => exec_profileFieldWrite_rejected ready (serveProfileFieldWrite_of_bank beyond field value),
    fun known beyond => exec_profileFieldWrite_rejected ready (serveProfileFieldWrite_of_field known beyond value),
    fun b f lawful known => ?_⟩
  intro given stored profile written reply
  obtain ⟨signed, inBudget⟩ := Field.ofId_facts known
  have read : f.written value = given := if_congr signed rfl rfl
  have clamped : f.stored value = stored := by rw [Field.stored, clampInt_eq_max_min f.range_le, read]
  have told : [bank, field] ++ le16 (signed16 (f.stored value)) ++ [flagByte (decide (f.stored value ≠ f.written value))] =
      reply := by
    rw [clamped, read]
    by_cases same : stored = given <;> simp [reply, same, flagByte]
  have answer : ∀ t, writeField b f stored s = t → sent = .next (answeredOk .dispatch 0x63 reply t) := fun t done => by
    rw [← told]
    exact exec_profileFieldWrite_accepted ready lawful known (by rw [clamped]; exact done)
  refine ⟨?_, fun g other => ?_, fun ⟨low, high, active, dead⟩ => ?_, fun kept => ?_⟩
  · rw [← clamped]
    exact clamped ▸ Profile.get_set_stored (s.store.banks.get b) f value
  · rw [Profile.get_set, if_neg other]
  · exact answer _ (writeField_of_inForce (inBudget.mpr ⟨low, high⟩) active dead)
  · refine answer _ (writeField_of_kept fun ⟨budget, active, dead⟩ => kept ?_)
    obtain ⟨low, high⟩ := inBudget.mp budget
    exact ⟨low, high, active, dead⟩

/-- Settles O36: the stored length is the nearest (`nearestSlotLength_nearest`), and the check that follows acts in
SCHEDULED alone. -/
theorem slotLengthSetStoresNearest : Obligations.SlotLengthSetStoresNearest := by
  intro seconds s ready free
  obtain ⟨allowed, nearest⟩ := nearestSlotLength_nearest seconds.toNat
  refine ⟨nearestSlotLength seconds.toNat, allowed, nearest, fun other => ?_, fun _ => ?_⟩
  · rw [exec_slotLengthSet_ready seconds ready free, 
      scheduleCheck_of_other (s := withSlotLength (nearestSlotLength seconds.toNat) s) other]
    rfl
  · exact exec_slotLengthSet_ready seconds ready free

end

/-! PROOFS. The run requests (R13 to R18): Departure Set (O28), Select Bank (O29), Replan (O30), Cancel (O33), what is held
in PLANNING (O27), and what a generation start captures (O31). -/

namespace Sys2Proof.Machine

/-! ### A run request outside PLANNING -/

theorem runFields_withPort (b : PortBlock) (s : State) : runFields (withPort b s) = runFields s := rfl

/-- An accepted run request with no frame held: nothing else is served. -/
theorem request_run {s t : State} {p : Port} {r : Request} {payload reply : List Byte} (h : s.ready p = true)
    (length : payload.length = r.payload) (role : r.role = none ∨ r.role = some p) (hard : r ≠ .softReset)
    (free : s.run.held = .all false) (settled : s.run.state ≠ .planning)
    (serve : ∀ b : PortBlock, b.HoldsLike s.port → serveRequest p r payload (withPort b s) = (withPort b t, .ok reply))
    (port : t.port = s.port) :
    request p (r.frame payload) s = answeredOk p r.code reply t :=
  request_blind_calm h length role hard (fun planning => settled planning.1) serve port
    fun q was => by simp [free] at was

theorem request_run_rejected {s : State} {p : Port} {r : Request} {payload : List Byte} {why : Status}
    (h : s.ready p = true) (length : payload.length = r.payload) (role : r.role = none ∨ r.role = some p)
    (hard : r ≠ .softReset) (settled : s.run.state ≠ .planning)
    (serve : ∀ b, serveRequest p r payload (withPort b s) = (withPort b s, .refused why)) :
    request p (r.frame payload) s = refused p why.byte r.code s :=
  request_rejected h length role hard (fun planning => settled planning.1) (serve (serving p (r.frame payload) s).port)

/-! ### Replans (R17) -/

theorem replan_of_within {s : State} (within : s.run.remaining ≤ 48 * s.plan.slotLength) :
    replan s = startGeneration .replan s := if_neg (not_lt.mpr within)

theorem replan_of_beyond {s : State} (beyond : 48 * s.plan.slotLength < s.run.remaining) : replan s = suspend s :=
  if_pos beyond

/-! ### Replan (R15) -/

theorem serveReplan_of_idle {s : State} (idle : s.run.state = .idle) : serveReplan s = (s, .refused .state) := by
  simp only [serveReplan, idle]

theorem serveReplan_of_scheduled {s : State} (scheduled : s.run.state = .scheduled) :
    serveReplan s = (scheduleCheck s, .ok (runFields (scheduleCheck s))) := by
  simp only [serveReplan, scheduled]

theorem serveReplan_of_running {s : State} (running : s.run.state = .conditioning ∨ s.run.state = .maintain) :
    serveReplan s = (replan s, .ok (runFields (replan s))) := by
  rcases running with e | e <;> simp only [serveReplan, e]

theorem exec_replan_accepted {s t : State} {p : Port} (h : s.ready p = true) (free : s.run.held = .all false)
    (settled : s.run.state ≠ .planning) (port : t.port = s.port)
    (serve : ∀ b : PortBlock, b.HoldsLike s.port → serveReplan (withPort b s) = (withPort b t, .ok (runFields t))) :
    exec (.replan p) s = .next (answeredOk p 0x06 (runFields t) t) :=
  congrArg Host.Outcome.next
    (request_run (r := .replan) (payload := []) h rfl (.inl rfl) (by decide) free settled serve port)

theorem exec_replan_running {s : State} {p : Port} (h : s.ready p = true) (free : s.run.held = .all false)
    (running : s.run.state = .conditioning ∨ s.run.state = .maintain) :
    exec (.replan p) s = .next (answeredOk p 0x06 (runFields (replan s)) (replan s)) := by
  refine exec_replan_accepted h free (by rcases running with e | e <;> simp [e]) (replan_port s) fun b same => ?_
  rw [serveReplan_of_running (s := withPort b s) running, replan_withPort b s same]
  rfl

/-! ### Departure Set (R2, R13) -/

theorem unitOf_of_two_le {unit : Byte} (beyond : 2 ≤ unit.toNat) : unitOf unit = none := by
  have fine : unit ≠ 0 := fun e => by simp [e] at beyond
  have coarse : unit ≠ 1 := fun e => by simp [e] at beyond
  rw [unitOf, if_neg fine, if_neg coarse]

theorem departureModeOf_of_two_le {mode : Byte} (beyond : 2 ≤ mode.toNat) : departureModeOf mode = none := by
  have once : mode ≠ 0 := fun e => by simp [e] at beyond
  have again : mode ≠ 1 := fun e => by simp [e] at beyond
  rw [departureModeOf, if_neg once, if_neg again]

theorem serveDepartureSet_refuses {value : U16} {unit mode : Byte}
    (unlawful : value.toNat = 0 ∨ 2 ≤ unit.toNat ∨ 2 ≤ mode.toNat) (period : U16) (s : State) :
    serveDepartureSet value unit mode period s = (s, .refused .range) := by
  unfold serveDepartureSet
  split
  · next u m known _ =>
    have zero : value = 0 := by
      rcases unlawful with zero | beyond | beyond
      · exact BitVec.eq_of_toNat_eq (by simpa using zero)
      · simp [unitOf_of_two_le beyond] at known
      · simp_all [departureModeOf_of_two_le beyond]
    exact if_pos zero
  · rfl

/-- The run block after an accepted Departure Set, before what follows it (R2, R3, R13). -/
def departed (value : U16) (unit mode : Byte) (period : U16) (s : State) : State :=
  { s with run := { s.run with
      state := if s.run.state = .idle then .scheduled else s.run.state
      remaining := value.toNat * (if unit.toNat = 1 then 60 else 1)
      counting := true
      unit := if unit.toNat = 1 then .coarse else .fine
      mode := if mode.toNat = 1 then .repeating else .oneShot
      period := if mode.toNat = 1 then max 60 (min 1440 period.toNat) else s.run.period } }

/-- What follows an accepted Departure Set, on the state as it is loaded (R13). -/
def departureFollows (s : State) : State :=
  if s.run.state = .scheduled then scheduleCheck s else replan s

theorem serveDepartureSet_of_lawful {value : U16} {unit mode : Byte} {s : State} (positive : value.toNat ≠ 0)
    (unitKnown : unit.toNat < 2) (modeKnown : mode.toNat < 2) (settled : s.run.state ≠ .planning) (period : U16) :
    serveDepartureSet value unit mode period s =
      (departureFollows (departed value unit mode period s),
        .ok (runFields (departureFollows (departed value unit mode period s)))) := by
  have lawful : value ≠ 0 := fun e => positive (by simp [e])
  have clamp : ∀ x, clampNat 60 1440 x = max 60 (min 1440 x) := clampNat_eq_max_min (by decide)
  have arrival : ∀ u m, unitOf unit = some u → departureModeOf mode = some m →
      departureArrival value.toNat u m period.toNat s = departureFollows (departed value unit mode period s) := by
    rcases byte_of_lt_two unitKnown with rfl | rfl <;> rcases byte_of_lt_two modeKnown with rfl | rfl <;>
      intro u m hu hm <;> cases hu <;> cases hm <;> (cases state : s.run.state) <;>
      simp_all [departureArrival, departureFollows, departed, loadDeparture, DepartureUnit.seconds]
  obtain ⟨u, hu⟩ : ∃ u, unitOf unit = some u := by
    rcases byte_of_lt_two unitKnown with rfl | rfl <;> exact ⟨_, rfl⟩
  obtain ⟨m, hm⟩ : ∃ m, departureModeOf mode = some m := by
    rcases byte_of_lt_two modeKnown with rfl | rfl <;> exact ⟨_, rfl⟩
  simp only [serveDepartureSet, hu, hm, arrival u m hu hm]
  exact if_neg lawful

theorem departureFollows_withPort {b : PortBlock} {s : State} (same : b.HoldsLike s.port) :
    departureFollows (withPort b s) = withPort b (departureFollows s) := by
  simp only [departureFollows, apply_ite (withPort b), ← scheduleCheck_withPort b s same, ← replan_withPort b s same]
  rfl

theorem departureFollows_port (s : State) : (departureFollows s).port = s.port := by
  unfold departureFollows
  split <;> simp

theorem serveRequest_departureSet (value : U16) (unit mode : Byte) (period : U16) (s : State) :
    serveRequest .dispatch .departureSet (le16 value ++ [unit, mode] ++ le16 period) s =
      serveDepartureSet value unit mode period s := by
  have first : fieldAt (le16 value ++ [unit, mode] ++ le16 period) 0 = value := word16_bytes value
  have last : fieldAt (le16 value ++ [unit, mode] ++ le16 period) 4 = period := word16_bytes period
  rw [serveRequest, first, last]
  rfl

theorem exec_departureSet_accepted {s : State} {value : U16} {unit mode : Byte} (h : s.ready .dispatch = true)
    (free : s.run.held = .all false) (settled : s.run.state ≠ .planning) (positive : value.toNat ≠ 0)
    (unitKnown : unit.toNat < 2) (modeKnown : mode.toNat < 2) (period : U16) :
    exec (.departureSet .dispatch value unit mode period) s =
      .next (answeredOk .dispatch 0x60 (runFields (departureFollows (departed value unit mode period s)))
        (departureFollows (departed value unit mode period s))) := by
  refine congrArg Host.Outcome.next (request_run (r := .departureSet)
    (payload := le16 value ++ [unit, mode] ++ le16 period) h rfl (.inr rfl) (by decide) free settled (fun b same => ?_)
    (departureFollows_port _))
  have moved := departureFollows_withPort (s := departed value unit mode period s) same
  rw [serveRequest_departureSet, serveDepartureSet_of_lawful (s := withPort b s) positive unitKnown modeKnown settled]
  have told := congrArg (fun t : State => Reply.ok (runFields t)) moved
  exact Prod.ext moved told

/-! ### Select Bank (R14, R145) -/

theorem serveSelectBank_of_beyond {bank : Byte} (beyond : 4 ≤ bank.toNat) (s : State) :
    serveSelectBank bank s = (s, .refused .range) := by
  rw [serveSelectBank, bankOf_of_four_le beyond]

theorem bankArrival_of_idle {s : State} (idle : s.run.state = .idle) (b : Fin 4) :
    bankArrival b s = computeBudget (s.store.banks.get b) (activate b s) := by
  simp only [bankArrival, idle]
  rfl

theorem bankArrival_of_scheduled {s : State} (scheduled : s.run.state = .scheduled) (b : Fin 4) :
    bankArrival b s = scheduleCheck (computeBudget (s.store.banks.get b) (activate b s)) := by
  simp only [bankArrival, scheduled]
  rfl

theorem bankArrival_of_running {s : State} (running : s.run.state = .conditioning ∨ s.run.state = .maintain)
    (b : Fin 4) : bankArrival b s = replan (activate b s) := by
  rcases running with e | e <;> simp only [bankArrival, e]

theorem bankArrival_withPort {c : PortBlock} {s : State} (same : c.HoldsLike s.port) (b : Fin 4) :
    bankArrival b (withPort c s) = withPort c (bankArrival b s) := by
  have active : (activate b s).port = s.port := rfl
  cases state : s.run.state with
  | idle =>
    rw [bankArrival_of_idle state, bankArrival_of_idle (s := withPort c s) state, ← computeBudget_withPort]
    rfl
  | scheduled =>
    rw [bankArrival_of_scheduled state, bankArrival_of_scheduled (s := withPort c s) state, ← scheduleCheck_withPort,
      ← computeBudget_withPort]
    · rfl
    · rw [computeBudget_port]
      exact same
  | conditioning =>
    rw [bankArrival_of_running (.inl state), bankArrival_of_running (s := withPort c s) (.inl state),
      ← replan_withPort c (activate b s) same]
    rfl
  | maintain =>
    rw [bankArrival_of_running (.inr state), bankArrival_of_running (s := withPort c s) (.inr state),
      ← replan_withPort c (activate b s) same]
    rfl
  | planning =>
    simp only [bankArrival, withPort_run, state]

theorem bankArrival_frame {s : State} (settled : s.run.state ≠ .planning) (b : Fin 4) :
    (bankArrival b s).port = s.port ∧ (bankArrival b s).store.active = b := by
  cases state : s.run.state with
  | idle => rw [bankArrival_of_idle state]; simp [activate]
  | scheduled => rw [bankArrival_of_scheduled state]; simp [activate]
  | conditioning => rw [bankArrival_of_running (.inl state)]; simp [activate]
  | maintain => rw [bankArrival_of_running (.inr state)]; simp [activate]
  | planning => exact absurd state settled

theorem exec_selectBank_accepted {s : State} {bank : Byte} {b : Fin 4} (h : s.ready .dispatch = true)
    (free : s.run.held = .all false) (settled : s.run.state ≠ .planning) (known : bank.toNat = b.val) :
    exec (.selectBank .dispatch bank) s =
      .next (answeredOk .dispatch 0x62 ([bank] ++ runFields (bankArrival b s)) (bankArrival b s)) := by
  obtain ⟨port, active⟩ := bankArrival_frame settled b
  have number : byteOf b.val = bank := by rw [← known]; exact BitVec.ofNat_toNat 8 bank |>.trans (by simp)
  refine congrArg Host.Outcome.next (request_run (r := .selectBank) (payload := [bank]) h rfl (.inr rfl) (by decide) free
    settled (fun c same => ?_) port)
  change serveSelectBank bank (withPort c s) = _
  rw [serveSelectBank, bankOf_of_toNat_eq known]
  simp only [bankArrival_withPort same, withPort_store, active, number, runFields_withPort]

/-! ### Cancel (R16) -/

theorem setReadiness_eq (c : Readiness) (m : Int) (s : State) :
    setReadiness c m s = { s with
      track := { s.track with readiness := c, margin := m }
      router := if c = s.track.readiness then s.router else recorded [.readinessChanged] s.router } := by
  unfold setReadiness
  dsimp only
  split
  · rfl
  · exact congrArg (fun r => { s with track := { s.track with readiness := c, margin := m }, router := r })
      (raise_router .readinessChanged _)

theorem enterIdle_eq (s : State) :
    enterIdle s = { s with
      run := { s.run with state := .idle, counting := false, remaining := 0, checkDue := false }
      track := { s.track with readiness := .none, margin := 0 }
      router := if s.track.readiness = .none then s.router else recorded [.readinessChanged] s.router } := by
  simp only [eq_comm (a := s.track.readiness)]
  exact setReadiness_eq .none 0 _

theorem serveCancel_of_idle {s : State} (idle : s.run.state = .idle) : serveCancel s = (s, .refused .state) := by
  simp only [serveCancel, idle]

theorem serveCancel_of_scheduled {s : State} (scheduled : s.run.state = .scheduled) :
    serveCancel s =
      (enterIdle (clearAccumulators s), .ok (runFields (enterIdle (clearAccumulators s)))) := by
  simp only [serveCancel, scheduled]

theorem serveCancel_of_running {s : State} (running : s.run.state = .conditioning ∨ s.run.state = .maintain) :
    serveCancel s = (enterIdle (endRun .cancelled s), .ok (runFields (enterIdle (endRun .cancelled s)))) := by
  rcases running with e | e <;> simp only [serveCancel, e]

/-- In IDLE the run fields of a response are zeros (R2, R4). -/
theorem runFields_enterIdle (s : State) : runFields (enterIdle s) = [0, 0, 0, 0, 0] := by
  have fields : le32 0 = [0, 0, 0, 0] := by decide
  rw [enterIdle_eq, runFields, fields]
  rfl

theorem exec_cancel_accepted {s t : State} (h : s.ready .dispatch = true) (free : s.run.held = .all false)
    (settled : s.run.state ≠ .planning) (port : t.port = s.port)
    (serve : ∀ b, serveCancel (withPort b s) = (enterIdle (withPort b t), .ok (runFields (enterIdle (withPort b t))))) :
    exec (.cancel .dispatch) s = .next (answeredOk .dispatch 0x61 [0, 0, 0, 0, 0] (enterIdle t)) := by
  refine congrArg Host.Outcome.next (request_run (r := .cancel) (payload := []) h rfl (.inr rfl) (by decide) free settled
    (fun b _ => ?_) (by simpa using port))
  refine (serve b).trans ?_
  rw [runFields_enterIdle, enterIdle_withPort]

/-! ### What PLANNING holds (R18) -/

/-- The frame is PENDING at the port and held, with its BUSY response (R18, R166). -/
def holding (p : Port) (f : Frame) (s : State) : State :=
  { s with
    port := { s.port with
      ports := s.port.ports.set p { s.port.ports.get p with rx := .pending f, response := busyResponse f.code } }
    run := { s.run with held := s.run.held.set p true } }

/-- A frame with a held code that arrives in PLANNING is held: it is PENDING, and no service follows. -/
theorem request_held {s : State} {p : Port} {f : Frame} (h : s.ready p = true) (planning : s.run.state = .planning)
    (held : heldCode f.code = true) (bytes : f.bytes ≠ []) :
    request p f s = holding p f s := by
  obtain ⟨awake, empty, -, idle, -⟩ := (ready_iff s p).mp h
  have fresh : awaits p f s = false := by simp [awaits, empty]
  have arrived : writeFrame p f s = holding p f s := by
    simp only [writeFrame, idle, deliver, empty]
    exact if_pos ⟨planning, held⟩
  rw [request, if_neg (by simp [awake, bytes]), fresh]
  simp only [Bool.false_eq_true, if_false, empty, arrived]
  rw [handle, serveUpTo, if_neg (by simp [State.candidate, holding])]
  refine serveReleased_none fun q was => ?_
  unfold State.candidate
  split <;> simp [was]

end Sys2Proof.Machine

section
open Sys2Proof Sys2Proof.Machine

/-- Settles O30: the service by run state, and the replan by the horizon. -/
theorem replanServedByRunState : Obligations.ReplanServedByRunState := by
  intro p s ready free sent answer
  refine ⟨fun idle => ?_, fun scheduled => ?_, fun running within => ?_, fun running beyond => ?_⟩
  · exact congrArg Host.Outcome.next (request_run_rejected (r := .replan) (payload := []) ready rfl (.inl rfl) (by decide)
      (by simp [idle]) fun b => serveReplan_of_idle (s := withPort b s) idle)
  · refine exec_replan_accepted ready free (by simp [scheduled]) (scheduleCheck_port s) fun b same => ?_
    rw [serveReplan_of_scheduled (s := withPort b s) scheduled, scheduleCheck_withPort b s same]
    rfl
  · have served := exec_replan_running ready free running
    rw [replan_of_within within] at served
    exact served
  · have served := exec_replan_running ready free running
    rw [replan_of_beyond beyond] at served
    exact served

/-- Settles O28: the refusals, and what follows the loaded state (`departureFollows`). -/
theorem departureSetLoadsCounter : Obligations.DepartureSetLoadsCounter := by
  intro value unit mode period s ready free settled sent loaded answer
  refine ⟨fun unlawful => ?_, fun positive unitKnown modeKnown => ?_⟩
  · exact congrArg Host.Outcome.next (request_run_rejected (r := .departureSet)
      (payload := le16 value ++ [unit, mode] ++ le16 period) ready rfl (.inr rfl) (by decide) settled fun b =>
        (serveRequest_departureSet value unit mode period _).trans (serveDepartureSet_refuses unlawful period _))
  have served : sent = answer (departureFollows loaded) :=
    exec_departureSet_accepted ready free settled positive unitKnown modeKnown period
  have running : s.run.state = .conditioning ∨ s.run.state = .maintain → departureFollows loaded = replan loaded :=
    fun running => if_neg (by rcases running with e | e <;> simp [loaded, e])
  refine ⟨fun waits => ?_, fun runs within => ?_, fun runs beyond => ?_⟩
  · have checks : departureFollows loaded = scheduleCheck loaded :=
      if_pos (by rcases waits with e | e <;> simp [loaded, e])
    rw [served, checks]
  · rw [served, running runs, replan_of_within within]
  · rw [served, running runs, replan_of_beyond beyond]

/-- Settles O29: the bank is active in all that follows (`bankArrival_of_idle` and its companions). -/
theorem selectBankActivatesBank : Obligations.SelectBankActivatesBank := by
  intro bank s ready free settled sent
  refine ⟨fun beyond => ?_, fun b known => ?_⟩
  · exact congrArg Host.Outcome.next (request_run_rejected (r := .selectBank) (payload := [bank]) ready rfl (.inr rfl)
      (by decide) settled fun c => serveSelectBank_of_beyond beyond (withPort c s))
  intro selected answer
  have served : ∀ t, bankArrival b s = t → sent = answer t := fun t follows => by
    subst follows
    exact exec_selectBank_accepted ready free settled known
  refine ⟨fun idle => served _ (bankArrival_of_idle idle b), fun scheduled => served _ (bankArrival_of_scheduled scheduled b),
    fun runs within => served _ ?_, fun runs beyond => served _ ?_⟩
  · exact (bankArrival_of_running runs b).trans (replan_of_within (s := activate b s) within)
  · exact (bankArrival_of_running runs b).trans (replan_of_beyond (s := activate b s) beyond)

/-- Settles O33: the service by run state, each with its entry into IDLE written out (`enterIdle_eq`). -/
theorem cancelStopsDeparture : Obligations.CancelStopsDeparture := by
  intro s ready free sent idle
  have idles : ∀ t, enterIdle t = idle t := enterIdle_eq
  refine ⟨fun idle => ?_, fun scheduled => ?_, fun runs => ?_⟩
  · exact congrArg Host.Outcome.next (request_run_rejected (r := .cancel) (payload := []) ready rfl (.inr rfl) (by decide)
      (by simp [idle]) fun b => serveCancel_of_idle (s := withPort b s) idle)
  · rw [← idles]
    exact exec_cancel_accepted ready free (by simp [scheduled]) rfl fun b =>
      serveCancel_of_scheduled (s := withPort b s) scheduled
  · rw [← idles]
    refine exec_cancel_accepted ready free (by rcases runs with e | e <;> simp [e]) (endRun_port _ s) fun b => ?_
    rw [serveCancel_of_running (s := withPort b s) runs, endRun_withPort]

/-- Settles O27: each of the four frames has a held code (`request_held`). -/
theorem runRequestsHeldInPlanning : Obligations.RunRequestsHeldInPlanning := by
  intro p s ready planning held
  have holds : ∀ (r : Request) (payload : List Byte), heldCode r.code = true →
      request p (r.frame payload) s = held (r.code :: byteOf payload.length :: payload) := fun r payload code =>
    request_held (f := r.frame payload) ready planning code (by simp [Request.frame])
  exact ⟨congrArg Host.Outcome.next (holds .replan [] rfl), congrArg Host.Outcome.next (holds .cancel [] rfl),
    fun b => congrArg Host.Outcome.next (holds .selectBank [b] rfl),
    fun v u m q => congrArg Host.Outcome.next (holds .departureSet (le16 v ++ [u, m] ++ le16 q) rfl)⟩

/-- Settles O31: the held set by the frames that stand, and the tick in progress by the origin. -/
theorem generationStartCapturesInputs : Obligations.GenerationStartCapturesInputs := by
  intro o s bank available
  have holdable : ∀ t : TargetPort, t.holdable = (match t.rx with
      | .pending f => let code := f.bytes.headD 0; decide (code = 0x06 ∨ code = 0x60 ∨ code = 0x61 ∨ code = 0x62)
      | .empty => false
      | .inService _ _ => false) := fun t => by
    unfold TargetPort.holdable
    cases t.rx with
    | pending f =>
      rw [Bool.eq_iff_iff]
      simp [heldCode, Frame.code, or_assoc]
    | empty => rfl
    | inService f d => rfl
  have held : (holdPending s).run.held = .ofFn fun p => (s.port.ports.get p).holdable := rfl
  simp only [holdable] at held
  have counted : (startGeneration o s).log =
      if o = .start ∧ s.log.countDue = .due then { s.log with countDue := .outside } else s.log := by
    cases o with
    | start => cases due : s.log.countDue <;> simp [startGeneration, holdPending, CountDue.atStart, due] <;> rw [← due]
    | replan => rfl
  have ready : ∀ r : LoadRecord, r.available = available r := fun r => by
    rw [Bool.eq_iff_iff]
    simp [LoadRecord.available, LoadRecord.inhibited, PerPort.nonempty, available]
  have started : startGeneration o s = { s with
      run := { s.run with
        state := .planning, origin := some o, held := (holdPending s).run.held, checkDue := false }
      log := (startGeneration o s).log
      plan := { s.plan with capture := some s.takeCapture } } := rfl
  rw [started, counted, held, State.takeCapture, ready, ready]
  rfl

end

/-! PROOFS. The queue through every command (log 22, log 26), and O2. -/

namespace Sys2Proof.Machine

/-! ### The ports -/

@[simp] theorem setBus_pending (p : Port) (b : Bus) (s : State) : (setBus p b s).pending = s.pending := rfl

@[simp] theorem returnFrame_pending (p : Port) (f : List Byte) (n : Nat) (e : Bool) (s : State) :
    (returnFrame p f n e s).pending = s.pending := rfl

@[simp] theorem endRead_pending (p : Port) (s : State) : (endRead p s).pending = s.pending := by
  unfold endRead
  dsimp only
  split <;> rfl

@[simp] theorem deliver_pending (p : Port) (f : Frame) (s : State) : (deliver p f s).pending = s.pending := by
  unfold deliver
  dsimp only
  split
  · split <;> rfl
  · rfl
  · rfl

@[simp] theorem endWrite_pending (p : Port) (f : Frame) (s : State) : (endWrite p f s).pending = s.pending := by
  unfold endWrite
  dsimp only
  split
  · rfl
  · rw [deliver_pending]; rfl

@[simp] theorem freeBus_pending (p : Port) (s : State) : (freeBus p s).pending = s.pending := by
  unfold freeBus
  split <;> simp

@[simp] theorem endWriteInService_pending (p : Port) (s : State) : (endWriteInService p s).pending = s.pending := by
  unfold endWriteInService
  split
  · split <;> simp
  all_goals rfl

@[simp] theorem writeFrame_pending (p : Port) (f : Frame) (s : State) : (writeFrame p f s).pending = s.pending := by
  unfold writeFrame
  split <;> simp

@[simp] theorem proceedWrite_pending (p : Port) (f : Frame) (e : WriteEnd) (s : State) :
    (proceedWrite p f e s).pending = s.pending := by
  cases e <;> simp [proceedWrite]

@[simp] theorem writeBytes_pending (p : Port) (data : List Byte) (e : WriteEnd) (s : State) :
    (writeBytes p data e s).pending = s.pending := by
  unfold writeBytes
  split <;> simp

@[simp] theorem passOver_pending (p : Port) (s : State) : (passOver p s).pending = s.pending := by
  unfold passOver
  split <;> simp

@[simp] theorem beginRead_pending (p : Port) (n : Nat) (e : Bool) (s : State) : (beginRead p n e s).pending = s.pending := by
  unfold beginRead
  dsimp only
  split <;> rfl

@[simp] theorem clockMore_pending (p : Port) (n : Nat) (s : State) : (clockMore p n s).pending = s.pending := by
  unfold clockMore
  dsimp only
  split <;> rfl

/-! ### The Request Handler -/

@[simp] theorem completeService_pending (p : Port) (f : Frame) (r : List Byte) (s : State) :
    (completeService p f r s).pending = s.pending := by
  rw [← endWriteInService_pending p s]
  unfold completeService installResponse
  split <;> rfl

/-- A soft reset, too, leaves the commands that wait (log 26). -/
@[simp] theorem servePort_pending (p : Port) (s : State) : (servePort p s).pending = s.pending := by
  have fallen : ∀ t, (fallSoft t).pending = t.pending := fun _ => rfl
  have taken : ∀ f, (takeFrame p f s).pending = s.pending := fun _ => rfl
  unfold servePort
  split
  · dsimp only
    split
    · rw [fallen, install_pending, serveFrame_pending, taken]
    · rw [completeService_pending, serveFrame_pending, taken]
  all_goals rfl

@[simp] theorem serveUpTo_pending (p : Port) (n : Nat) (s : State) : (serveUpTo p n s).pending = s.pending := by
  induction n generalizing s with
  | zero => rfl
  | succ n ih =>
    rw [serveUpTo]
    split
    · split
      · rfl
      · split <;> simp [ih]
    · rfl

@[simp] theorem serveWhile_pending (more : State → Bool) (n : Nat) (s : State) :
    (serveWhile more n s).pending = s.pending := by
  induction n generalizing s with
  | zero => rfl
  | succ n ih =>
    rw [serveWhile]
    split
    · split <;> simp [ih]
    · rfl

@[simp] theorem serveReleased_pending (before s : State) : (serveReleased before s).pending = s.pending :=
  serveWhile_pending _ _ s

@[simp] theorem handle_pending (p : Port) (s : State) : (handle p s).pending = s.pending := by simp [handle]

@[simp] theorem request_pending (p : Port) (f : Frame) (s : State) : (request p f s).pending = s.pending := by
  unfold request
  split
  · rfl
  · split
    · exact handle_pending p s
    · split <;> simp

/-! ### The time base -/

theorem takeIf_pending {due : State → Bool} {act : State → State} (keep : ∀ s, (act s).pending = s.pending) (s : State) :
    (takeIf due act s).pending = s.pending := by
  unfold takeIf
  split
  · exact keep s
  · rfl

@[simp] theorem sensorExpiry_pending (s : State) : (sensorExpiry s).pending = s.pending := by
  unfold sensorExpiry
  dsimp only
  split <;> simp

@[simp] theorem holdExpiry_pending (s : State) : (holdExpiry s).pending = s.pending := by
  unfold holdExpiry
  dsimp only
  split <;> simp

@[simp] theorem startTimeouts_pending (s : State) : (startTimeouts s).pending = s.pending := by simp [startTimeouts]

@[simp] theorem startSlot_pending (s : State) : (startSlot s).pending = s.pending := by
  unfold startSlot
  split <;> simp

@[simp] theorem closeTick_pending (s : State) : (closeTick s).pending = s.pending := by
  unfold closeTick
  split
  · rfl
  · split <;> rfl

@[simp] theorem expiry_pending (s : State) : (expiry s).pending = s.pending := by simp [expiry]

@[simp] theorem settle_pending (s : State) : (settle s).pending = s.pending := by
  unfold settle
  dsimp only
  rw [takeIf_pending expiry_pending, takeIf_pending scheduleCheck_pending, takeIf_pending startSlot_pending,
    takeIf_pending (act := changePhase) fun _ => rfl, takeIf_pending (act := endCooldown) fun _ => rfl,
    takeIf_pending startTimeouts_pending, takeIf_pending holdExpiry_pending, takeIf_pending sensorExpiry_pending]

@[simp] theorem openTick_pending (s : State) : (openTick s).pending = s.pending := by
  have counted : ∀ t, (countTime t).pending = t.pending := fun _ => rfl
  have before : (beforeTick s).pending = s.pending := by simp [beforeTick, serveWaiting]
  unfold openTick
  split
  · rfl
  · dsimp only
    split
    · exact before
    · rw [counted, before]

@[simp] theorem tick_pending (s : State) : (tick s).pending = s.pending := by
  unfold tick
  split <;> simp

theorem moments_pending {s t : State} (m : t ∈ moments s) : t.pending = s.pending := by
  simp only [moments, List.mem_cons, List.not_mem_nil, or_false] at m
  rcases m with rfl | rfl | rfl | rfl <;> simp

theorem tickThat_pending {due : State → Bool} {act : State → State} (keep : ∀ s, (act s).pending = s.pending) (s : State) :
    (tickThat due act s).pending = s.pending := by
  unfold tickThat
  split
  · next t found => rw [keep, moments_pending (List.mem_of_find?_eq_some found)]
  · rfl

@[simp] theorem completion_pending (s : State) : (completion s).pending = s.pending := by
  unfold completion
  split <;> simp

@[simp] theorem release_pending (c : ResetCauses) (x : BitVec 2) (s : State) : (release c x s).pending = s.pending := by
  unfold release appendInterrupted
  dsimp only
  split <;> rfl

end Sys2Proof.Machine

section
open Sys2Proof Sys2Proof.Machine

/-- Settles O2: each command answers a next state, and each part of it keeps the queue. -/
theorem everyCommandAnswersNextState : Obligations.EveryCommandAnswersNextState := by
  intro c s
  cases c with
  | finishedWrite p address data => exact ⟨_, rfl, by split <;> simp⟩
  | responseRead p address count stops =>
    refine ⟨_, rfl, ?_⟩
    split
    · split <;> simp
    · simp
  | stretchLimit p => exact ⟨_, rfl, by split <;> simp⟩
  | deferredInstallation p count => exact ⟨_, rfl, by split <;> simp⟩
  | timeBaseTick => exact ⟨_, rfl, tick_pending s⟩
  | departureExpiry => exact ⟨_, rfl, tickThat_pending expiry_pending s⟩
  | scheduleCheck => exact ⟨_, rfl, tickThat_pending scheduleCheck_pending s⟩
  | planCompletion =>
    refine ⟨_, rfl, ?_⟩
    split
    · rfl
    · split
      · split <;> simp
      all_goals rfl
  | phaseChange => exact ⟨_, rfl, tickThat_pending (act := changePhase) (fun _ => rfl) s⟩
  | slotStart => exact ⟨_, rfl, tickThat_pending startSlot_pending s⟩
  | holdTimerExpiry => exact ⟨_, rfl, tickThat_pending holdExpiry_pending s⟩
  | startTimeout => exact ⟨_, rfl, tickThat_pending startTimeouts_pending s⟩
  | cooldownEnd => exact ⟨_, rfl, tickThat_pending (act := endCooldown) (fun _ => rfl) s⟩
  | minimumOnEnd => exact ⟨_, rfl, tickThat_pending (fun _ => rfl) s⟩
  | windscreenEnergySpent => exact ⟨_, rfl, tickThat_pending (fun _ => rfl) s⟩
  | sensorTimerExpiry => exact ⟨_, rfl, tickThat_pending sensorExpiry_pending s⟩
  | powerOnReset => exact ⟨_, rfl, rfl⟩
  | pinReset =>
    refine ⟨_, rfl, ?_⟩
    split
    · rfl
    · split <;> rfl
  | resetRelease a b => exact ⟨_, rfl, by split <;> simp⟩
  | _ => exact ⟨_, rfl, request_pending _ _ s⟩

end

/-! PROOFS. The handler's checks (R177): frames of another port's role with O12, and the first failed check with O11. -/

namespace Sys2Proof.Machine

/-! ### Foreign roles -/

/-- A request of another port's role, whose code is not held, is refused for its role and changes nothing else. -/
theorem request_foreign {s : State} {p q : Port} {r : Request} {payload : List Byte} (h : s.ready p = true)
    (length : payload.length = r.payload) (role : r.role = some q) (other : p ≠ q)
    (free : ¬(s.run.state = .planning ∧ heldCode r.code = true)) :
    request p (r.frame payload) s = refused p 0x12 r.code s :=
  request_refused h (by simp [Request.frame]) (checkFrame_foreign length role other) free

/-- The same for a request that PLANNING does not hold. -/
theorem request_foreign_open {s : State} {p q : Port} {r : Request} {payload : List Byte} (h : s.ready p = true)
    (length : payload.length = r.payload) (role : r.role = some q) (other : p ≠ q) (free : heldCode r.code = false) :
    request p (r.frame payload) s = refused p 0x12 r.code s :=
  request_foreign h length role other fun planning => by simp [free] at planning

/-! ### The checks of any frame -/

theorem frameOf_wellFormed (bytes : List Byte) (c : Byte) (rest : List Byte) (split : bytes = c :: rest) :
    (frameOf bytes).wellFormed = true ↔
      bytes.length ≤ 32 ∧ ∃ n payload, rest = n :: payload ∧ payload.length = n.toNat := by
  subst split
  simp only [frameOf, Frame.extend, List.nil_append, Bool.false_or, Frame.wellFormed]
  cases rest with
  | nil => simp
  | cons n payload =>
    by_cases fits : (c :: n :: payload).length ≤ 32
    · have whole : (c :: n :: payload).take 32 = c :: n :: payload := List.take_of_length_le fits
      have short : decide (32 < (c :: n :: payload).length) = false := decide_eq_false (by omega)
      rw [whole, short]
      simp only [Bool.not_false, Bool.true_and, beq_iff_eq]
      exact ⟨fun agrees => ⟨fits, n, payload, rfl, agrees⟩, fun ⟨_, m, rest, same, agrees⟩ => by
        cases same
        exact agrees⟩
    · have long : decide (32 < (c :: n :: payload).length) = true := decide_eq_true (by omega)
      rw [long]
      simp only [List.take_succ_cons, Bool.not_true, Bool.false_and, Bool.false_eq_true, false_iff]
      exact fun formed => fits formed.1

theorem frameOf_code (c : Byte) (rest : List Byte) : (frameOf (c :: rest)).code = c := rfl

theorem frameOf_payload {c : Byte} {rest : List Byte} (fits : (c :: rest).length ≤ 32) :
    (frameOf (c :: rest)).bytes.drop 2 = rest.drop 1 := by
  have whole : (frameOf (c :: rest)).bytes = c :: rest := List.take_of_length_le fits
  rw [whole]
  rfl

theorem checkFrame_of_illFormed {p : Port} {f : Frame} (ill : ¬f.wellFormed = true) : checkFrame p f = .error .length := by
  simp [checkFrame, ill]

theorem checkFrame_of_unknown {p : Port} {f : Frame} (well : f.wellFormed = true) (unknown : Request.ofCode f.code = none) :
    checkFrame p f = .error .code := by
  simp [checkFrame, well, unknown]

theorem checkFrame_of_role {p q : Port} {f : Frame} {r : Request} (well : f.wellFormed = true)
    (known : Request.ofCode f.code = some r) (role : r.role = some q) (other : p ≠ q) :
    checkFrame p f = .error .role := by
  simp [checkFrame, well, known, role, Ne.symm other]

theorem checkFrame_of_length {p : Port} {f : Frame} {r : Request} (well : f.wellFormed = true)
    (known : Request.ofCode f.code = some r) (role : r.role = none ∨ r.role = some p)
    (differs : (f.bytes.drop 2).length ≠ r.payload) : checkFrame p f = .error .length := by
  have passes : ¬(r.role ≠ none ∧ r.role ≠ some p) := by rcases role with e | e <;> simp [e]
  unfold checkFrame
  simp only [well, known, Bool.not_true, Bool.false_eq_true, if_false]
  rw [if_neg passes, if_pos differs]

/-! ### The catalogue (09, 9.6) -/

/-- The codes with their payload lengths. -/
def catalogue : List (Nat × Nat) := Request.all.map fun r => (r.code.toNat, r.payload)

theorem lookup_map (k v : Request → Nat) (l : List Request) (n : Nat) :
    (l.map fun r => (k r, v r)).lookup n = (l.find? fun r => k r == n).map v := by
  induction l with
  | nil => rfl
  | cons r l ih =>
    rw [List.map_cons, List.lookup_cons, List.find?_cons, ih, BEq.comm]
    cases k r == n <;> rfl

/-- The catalogue gives the payload length of the request that a code names. -/
theorem catalogue_lookup (c : Byte) : catalogue.lookup c.toNat = (Request.ofCode c).map Request.payload := by
  have same : (fun r : Request => r.code.toNat == c.toNat) = fun r => r.code == c := by
    funext r
    rw [Bool.eq_iff_iff, beq_iff_eq, beq_iff_eq, BitVec.toNat_inj]
  rw [catalogue, lookup_map, same]
  rfl

/-- The codes of the three roles, as ranges (09, 9.6). -/
def Foreign (p : Port) (c : Byte) : Prop :=
  (0x20 ≤ c.toNat ∧ c.toNat ≤ 0x22 ∧ p ≠ .supply) ∨ (0x40 ≤ c.toNat ∧ c.toNat ≤ 0x46 ∧ p ≠ .climate)
    ∨ (0x60 ≤ c.toNat ∧ c.toNat ≤ 0x65 ∧ p ≠ .dispatch)

theorem ofCode_eq_some {c : Byte} {r : Request} (known : Request.ofCode c = some r) : r.code = c := by
  simpa using List.find?_some known

/-- Every code of a role's range, which starts at `low` and has `count` codes, names a request of that role. -/
theorem ofCode_of_range {c : Byte} {low count : Nat} {q : Port}
    (named : ∀ i : Fin count, ((Request.ofCode (BitVec.ofNat 8 (low + i.val))).bind Request.role) = some q)
    (above : low ≤ c.toNat) (below : c.toNat < low + count) : ∃ r, Request.ofCode c = some r ∧ r.role = some q := by
  have found := named ⟨c.toNat - low, by omega⟩
  rw [Nat.add_sub_cancel' above, BitVec.ofNat_toNat, BitVec.setWidth_eq] at found
  exact Option.bind_eq_some_iff.mp found

theorem role_of_foreign {p : Port} {c : Byte} (foreign : Foreign p c) :
    ∃ r q, Request.ofCode c = some r ∧ r.role = some q ∧ p ≠ q := by
  rcases foreign with ⟨above, below, other⟩ | ⟨above, below, other⟩ | ⟨above, below, other⟩
  · obtain ⟨r, known, role⟩ := ofCode_of_range (count := 3) (q := .supply) (by decide) above (by omega)
    exact ⟨r, _, known, role, other⟩
  · obtain ⟨r, known, role⟩ := ofCode_of_range (count := 7) (q := .climate) (by decide) above (by omega)
    exact ⟨r, _, known, role, other⟩
  · obtain ⟨r, known, role⟩ := ofCode_of_range (count := 6) (q := .dispatch) (by decide) above (by omega)
    exact ⟨r, _, known, role, other⟩

/-- A request whose code is not foreign to a port is open, or of that port's role. -/
theorem role_of_not_foreign {p : Port} {r : Request} (home : ¬Foreign p r.code) : r.role = none ∨ r.role = some p := by
  by_contra! other
  refine home ?_
  revert other
  cases r <;> cases p <;> simp [Request.role, Foreign, Request.code]

end Sys2Proof.Machine

section
open Sys2Proof Sys2Proof.Machine

/-- Settles O12: each of the sixteen requests, at a port of another role (`request_foreign`). -/
theorem foreignRoleRefused : Obligations.ForeignRoleRefused := by
  intro p s ready
  have refuses : ∀ {q : Port} (r : Request) (payload : List Byte), r.role = some q → p ≠ q →
      heldCode r.code = false → payload.length = r.payload →
      Host.Outcome.next (φ := Fault) (ρ := Refusal) (request p (r.frame payload) s) = .next (refused p 0x12 r.code s) :=
    fun r payload role other free length =>
      congrArg Host.Outcome.next (request_foreign_open ready length role other free)
  refine ⟨fun other => ⟨fun l g k h => refuses .envelope _ rfl other rfl rfl, fun f => refuses .floorSet _ rfl other rfl rfl,
    refuses .drawQuery _ rfl other rfl rfl⟩, fun other => ⟨fun a b c d => refuses .sensorReport _ rfl other rfl rfl,
    fun q x d => refuses .actuatorStatus _ rfl other rfl rfl, refuses .grantQuery _ rfl other rfl rfl,
    fun l => refuses .clearFault _ rfl other rfl rfl, fun i v => refuses .copEntryWrite _ rfl other rfl rfl,
    fun l v => refuses .loadLimitSet _ rfl other rfl rfl, fun v => refuses .sensorTimeoutSet _ rfl other rfl rfl⟩,
    fun other => ⟨fun settled => ?held, fun b f v => refuses .profileFieldWrite _ rfl other rfl rfl,
    fun v => refuses .slotLengthSet _ rfl other rfl rfl, refuses .softReset _ rfl other rfl rfl⟩⟩
  case held =>
    have refusesHeld : ∀ (r : Request) (payload : List Byte), r.role = some .dispatch → payload.length = r.payload →
        Host.Outcome.next (φ := Fault) (ρ := Refusal) (request p (r.frame payload) s) =
          .next (refused p 0x12 r.code s) := fun r payload role length =>
      congrArg Host.Outcome.next (request_foreign ready length role other fun planning => settled planning.1)
    exact ⟨fun v u m q => refusesHeld .departureSet _ rfl rfl, refusesHeld .cancel _ rfl rfl,
      fun b => refusesHeld .selectBank _ rfl rfl⟩

/-- Settles O11: one lemma for each check of `checkFrame`; the catalogue is that of the requests (`catalogue_lookup`), and
a foreign code names a request of another role (`role_of_foreign`). -/
theorem failedChecksRefuseFrame : Obligations.FailedChecksRefuseFrame := by
  intro p c rest s ready notHeld bytes wellFormed codes foreign sent
  have free : ¬(s.run.state = .planning ∧ heldCode (frameOf bytes).code = true) := by
    rw [frameOf_code]
    simpa [heldCode, or_assoc] using notHeld
  have fails : ∀ why, checkFrame p (frameOf bytes) = .error why → sent = .next (refused p why.byte c s) := fun why fail =>
    congrArg Host.Outcome.next (request_refused ready (by simp [frameOf, Frame.extend, bytes]) fail free)
  have well := frameOf_wellFormed bytes c rest rfl
  refine ⟨fun ill => fails .length (checkFrame_of_illFormed fun formed => ill (well.mp formed)),
    fun formed unknown => fails .code (checkFrame_of_unknown (well.mpr formed) ?_),
    fun formed away => ?_, fun formed home n known differs => ?_⟩
  · have none := (catalogue_lookup c).symm.trans unknown
    rw [frameOf_code]
    simpa using none
  · obtain ⟨r, q, known, role, other⟩ := role_of_foreign away
    exact fails .role (checkFrame_of_role (well.mpr formed) known role other)
  · obtain ⟨r, named, length⟩ : ∃ r, Request.ofCode c = some r ∧ r.payload = n := by
      simpa using (catalogue_lookup c).symm.trans known
    have home : ¬Foreign p r.code := by rw [ofCode_eq_some named]; exact home
    obtain ⟨fits, m, payload, rfl, -⟩ := id formed
    refine fails .length (checkFrame_of_length (well.mpr formed) named (role_of_not_foreign home) ?_)
    rw [frameOf_payload fits, length]
    simpa using differs

end

/-! PROOFS. The trajectory (R38, R39) with O38, and the slot table (R40 to R43) with O39. -/

namespace Sys2Proof.Machine

/-! ### The ramp -/

/-- A part of a whole, truncated toward zero, lies between 0 and the whole. -/
theorem tdiv_between {d x y : Int} (nonneg : 0 ≤ x) (within : x ≤ y) (positive : 0 < y) :
    min 0 d ≤ (d * x).tdiv y ∧ (d * x).tdiv y ≤ max 0 d := by
  have up : ∀ e : Int, 0 ≤ e → 0 ≤ (e * x).tdiv y ∧ (e * x).tdiv y ≤ e := fun e he => by
    rw [Int.tdiv_eq_ediv_of_nonneg (mul_nonneg he nonneg)]
    exact ⟨Int.ediv_nonneg (mul_nonneg he nonneg) positive.le,
      Int.ediv_le_of_le_mul positive (mul_le_mul_of_nonneg_left within he)⟩
  rcases le_total 0 d with rising | falling
  · obtain ⟨low, high⟩ := up d rising
    omega
  · obtain ⟨low, high⟩ := up (-d) (by omega)
    rw [neg_mul, Int.neg_tdiv] at low high
    omega

/-! ### The trajectory (R38, R39) -/

theorem trajectory_above {settle rPlan t : Nat} (above : rPlan < t) (tSet t0 : Int) :
    trajectory tSet t0 settle rPlan t = t0 := if_pos above

theorem trajectory_settled {settle rPlan t : Nat} (within : t ≤ rPlan) (settled : rPlan ≤ settle ∨ t < settle)
    (tSet t0 : Int) : trajectory tSet t0 settle rPlan t = tSet := by
  rw [trajectory, if_neg (not_lt.mpr within)]
  rcases settled with short | late
  · exact if_pos short
  · simp [late]

theorem trajectory_ramp {settle rPlan t : Nat} (long : settle < rPlan) (early : settle ≤ t) (within : t ≤ rPlan)
    (tSet t0 : Int) : trajectory tSet t0 settle rPlan t =
      tSet - ((tSet - t0) * ((t : Int) - settle)).tdiv ((rPlan : Int) - settle) := by
  rw [trajectory, if_neg (not_lt.mpr within), if_neg (not_le.mpr long), if_neg (not_lt.mpr early), truncDiv,
    Nat.cast_sub early, Nat.cast_sub long.le]

theorem trajectory_at_settle {settle rPlan : Nat} (within : settle ≤ rPlan) (tSet t0 : Int) :
    trajectory tSet t0 settle rPlan settle = tSet := by
  rcases within.eq_or_lt with same | long
  · exact trajectory_settled within (.inl same.ge) tSet t0
  · rw [trajectory_ramp long le_rfl within]
    simp

theorem trajectory_at_plan {settle rPlan : Nat} (long : settle < rPlan) (tSet t0 : Int) :
    trajectory tSet t0 settle rPlan rPlan = t0 := by
  rw [trajectory_ramp long long.le le_rfl, Int.mul_tdiv_cancel _ (by omega)]
  omega

theorem trajectory_at_end (tSet t0 : Int) (settle rPlan : Nat) : trajectory tSet t0 settle rPlan 0 = tSet := by
  rcases settle.eq_zero_or_pos with rfl | positive
  · exact trajectory_at_settle (Nat.zero_le rPlan) tSet t0
  · exact trajectory_settled (Nat.zero_le rPlan) (.inr positive) tSet t0

theorem trajectory_between (tSet t0 : Int) (settle rPlan t : Nat) :
    min t0 tSet ≤ trajectory tSet t0 settle rPlan t ∧ trajectory tSet t0 settle rPlan t ≤ max t0 tSet := by
  rcases lt_or_ge rPlan t with above | within
  · rw [trajectory_above above]
    omega
  by_cases settled : rPlan ≤ settle ∨ t < settle
  · rw [trajectory_settled within settled]
    omega
  · obtain ⟨long, early⟩ := not_or.mp settled
    rw [trajectory_ramp (by omega) (by omega) within]
    obtain ⟨low, high⟩ := tdiv_between (d := tSet - t0) (x := (t : Int) - settle) (y := (rPlan : Int) - settle)
      (by omega) (by omega) (by omega)
    omega

/-! ### The slot table (R40 to R43) -/

theorem slotTable_length (p : Profile) (t0 tOut : Int) (rPlan slotLength : Nat) :
    (slotTable p t0 tOut rPlan slotLength).length = slotCount rPlan slotLength := by
  simp [slotTable]

theorem slotTable_get {p : Profile} {t0 tOut : Int} {rPlan slotLength i : Nat} {e : SlotEntry} :
    (slotTable p t0 tOut rPlan slotLength)[i]? = some e ↔
      i < slotCount rPlan slotLength ∧ slotEntry p t0 tOut rPlan slotLength i = e := by
  rw [slotTable, List.getElem?_map, Option.map_eq_some_iff]
  constructor
  · rintro ⟨j, found, rfl⟩
    obtain ⟨inside, same⟩ := List.getElem?_eq_some_iff.mp found
    rw [List.getElem_range] at same
    subst same
    exact ⟨by simpa using inside, rfl⟩
  · rintro ⟨inside, rfl⟩
    exact ⟨i, by simp [inside], rfl⟩

section
variable (p : Profile) (t0 tOut : Int) {rPlan slotLength : Nat}

theorem slotEntry_stop (i : Nat) :
    (slotEntry p t0 tOut rPlan slotLength i).stop = (slotCount rPlan slotLength - i - 1) * slotLength := rfl

theorem slotEntry_start {i : Nat} (later : i ≠ 0) :
    (slotEntry p t0 tOut rPlan slotLength i).start = (slotCount rPlan slotLength - i) * slotLength := if_neg later

/-- A time lies in the slot of an index exactly where that many slots end after it (R41). -/
theorem slotEntry_contains {i t : Nat} (length : 0 < slotLength) (inside : i < slotCount rPlan slotLength)
    (within : t ≤ rPlan) :
    (slotEntry p t0 tOut rPlan slotLength i).stop < t ∧ t ≤ (slotEntry p t0 tOut rPlan slotLength i).start ↔
      ceilDiv t slotLength + i = slotCount rPlan slotLength := by
  have after : (slotEntry p t0 tOut rPlan slotLength i).stop < t ↔
      slotCount rPlan slotLength - i - 1 < ceilDiv t slotLength := by
    rw [slotEntry_stop, ← not_le, ← ceilDiv_le_iff length, not_le]
  have before : t ≤ (slotEntry p t0 tOut rPlan slotLength i).start ↔
      ceilDiv t slotLength ≤ slotCount rPlan slotLength - i := by
    rcases eq_or_ne i 0 with rfl | later
    · have all := (ceilDiv_le_iff length).mpr (within.trans (le_ceilDiv_mul length))
      exact iff_of_true within all
    · rw [slotEntry_start p t0 tOut later, ceilDiv_le_iff length]
  rw [after, before]
  omega

theorem slotCount_pos (length : 0 < slotLength) (remains : 0 < rPlan) : 0 < slotCount rPlan slotLength := by
  by_contra none
  have := (ceilDiv_le_iff length).mp (not_lt.mp none)
  omega

/-- Each slot has seconds in it: the last second of its span, at the least. -/
theorem slotEntry_ordered {i : Nat} (length : 0 < slotLength) (remains : 0 < rPlan)
    (inside : i < slotCount rPlan slotLength) :
    (slotEntry p t0 tOut rPlan slotLength i).stop < (slotEntry p t0 tOut rPlan slotLength i).start := by
  have positive : 0 < ceilDiv rPlan slotLength := slotCount_pos length remains
  rcases eq_or_ne i 0 with rfl | later
  · exact ((slotEntry_contains p t0 tOut length inside le_rfl).mpr (by rfl)).1
  · rw [slotEntry_start p t0 tOut later, slotEntry_stop]
    exact Nat.mul_lt_mul_of_pos_right (by omega) length

end

/-- The first entry that a test accepts, where it accepts one alone. -/
theorem findIdx?_of_unique {α : Type} {l : List α} {test : α → Bool} {i : Nat} {a : α} (found : l[i]? = some a)
    (holds : test a = true) (unique : ∀ j b, l[j]? = some b → test b = true → j = i) : l.findIdx? test = some i := by
  obtain ⟨inside, same⟩ := List.getElem?_eq_some_iff.mp found
  refine List.findIdx?_eq_some_iff_getElem.mpr ⟨inside, by rw [same]; exact holds, fun j earlier => ?_⟩
  intro other
  exact absurd (unique j _ (List.getElem?_eq_getElem (by omega)) other) (by omega)

end Sys2Proof.Machine

section
open Sys2Proof Sys2Proof.Machine

/-- Settles O38: the pieces of the trajectory, and its bounds (`trajectory_between`). -/
theorem trajectoryRampsToTarget : Obligations.TrajectoryRampsToTarget := by
  intro r t target settle ramp
  exact ⟨fun long early within => trajectory_ramp long early within _ _,
    fun late within => trajectory_settled within (.inr late) _ _,
    fun short within => trajectory_settled within (.inl short) _ _,
    fun above => trajectory_above above _ _, fun long => trajectory_at_plan long _ _,
    fun within => trajectory_at_settle within _ _, trajectory_between _ _ _ _ t⟩

/-- Settles O39: the entries by index (`slotTable_get`), and the one slot of each time (`slotEntry_contains`). -/
theorem slotTableCoversRemainingTime : Obligations.SlotTableCoversRemainingTime := by
  intro c length remains r n
  have count : n = slotCount c.rPlan c.slotLength := slotTable_length _ _ _ _ _
  have entry : ∀ i e, r.slots[i]? = some e ↔ i < slotCount c.rPlan c.slotLength ∧
      slotEntry c.profile c.cabin c.outdoor c.rPlan c.slotLength i = e := fun i e => slotTable_get
  have positive : 0 < slotCount c.rPlan c.slotLength := slotCount_pos length remains
  refine ⟨count, ⟨_, (entry 0 _).mpr ⟨positive, rfl⟩, rfl⟩, ⟨_, (entry (n - 1) _).mpr ⟨by omega, rfl⟩, ?last⟩,
    fun i e at_i f at_next => ?next, fun i e at_i => ?entry, fun t early within => ?covers⟩
  case last =>
    have stop : (slotEntry c.profile c.cabin c.outdoor c.rPlan c.slotLength (n - 1)).stop = 0 := by
      rw [slotEntry_stop, count, show slotCount c.rPlan c.slotLength - (slotCount c.rPlan c.slotLength - 1) - 1 = 0 by
        omega, Nat.zero_mul]
    refine ⟨stop, ?_⟩
    have ends := trajectory_at_end c.profile.tSet c.cabin c.profile.settle c.rPlan
    rw [← stop] at ends
    exact ends
  case next =>
    obtain ⟨-, rfl⟩ := (entry i e).mp at_i
    obtain ⟨-, rfl⟩ := (entry (i + 1) f).mp at_next
    rw [slotEntry_start _ _ _ (Nat.succ_ne_zero i), slotEntry_stop, Nat.sub_sub]
  case entry =>
    obtain ⟨inside, rfl⟩ := (entry i e).mp at_i
    refine ⟨slotEntry_ordered _ _ _ length remains inside, by rw [slotEntry_stop, count], rfl, rfl, ?_⟩
    intro start span warming loss
    exact congrArg (fun w => min 20000 (w + loss)) (warmingPower_eq c.profile start _ span)
  case covers =>
    have slots : ceilDiv t c.slotLength ≤ slotCount c.rPlan c.slotLength :=
      (ceilDiv_le_iff length).mpr (within.trans (le_ceilDiv_mul length))
    have one : 0 < ceilDiv t c.slotLength := slotCount_pos length early
    have inside : slotCount c.rPlan c.slotLength - ceilDiv t c.slotLength < slotCount c.rPlan c.slotLength := by omega
    have found := (entry _ _).mpr ⟨inside, rfl⟩
    obtain ⟨after, before⟩ := (slotEntry_contains c.profile c.cabin c.outdoor length inside within).mpr (by omega)
    have unique : ∀ j f, r.slots[j]? = some f → f.stop < t → t ≤ f.start →
        j = slotCount c.rPlan c.slotLength - ceilDiv t c.slotLength := fun j f at_j later earlier => by
      obtain ⟨inside, rfl⟩ := (entry j f).mp at_j
      have := (slotEntry_contains c.profile c.cabin c.outdoor length inside within).mp ⟨later, earlier⟩
      omega
    refine ⟨_, findIdx?_of_unique found (by simp [after, before]) fun j f at_j holds => ?_, _, found, after, before, unique⟩
    simp only [Bool.and_eq_true, decide_eq_true_eq] at holds
    exact unique j f at_j holds.2 holds.1

end

/-! PROOFS. Sensor Report (R119 to R134): what is stored, the door and the open loop with O18, the report judged by the
trajectory with O19, and the loss of the track with O20. -/

namespace Sys2Proof.Machine

/-! ### Steps 1 to 4 of R120: what a report stores -/

/-- The track block after steps 1 to 4 of R120, apart from the tracker's return from open loop. -/
def TrackBlock.reported (t : TrackBlock) (tCab tOut tPack : Option Int) (doorOpen : Bool) : TrackBlock :=
  { t with
    tCab := tCab.or t.tCab
    tOut := tOut.or t.tOut
    tPack := tPack.or t.tPack
    doorOpen := doorOpen
    sensorTimer := if tCab.isSome then some t.sensorTimeout else t.sensorTimer
    openLoop := t.openLoop && !tCab.isSome
    holdSensor := t.holdSensor && !(tCab.isSome && t.openLoop) }

/-- The return from open loop removes the last hold cause (R125). -/
def TrackBlock.returns (t : TrackBlock) (tCab : Option Int) : Prop :=
  (tCab.isSome = true ∧ t.openLoop = true) ∧ t.tracker = .held ∧ t.holdDoor = false

/-- The slot block after a report: a cabin report is seen while a slot is open (R50). -/
def SlotBlock.reported (b : SlotBlock) (tCab : Option Int) : SlotBlock :=
  { b with reportSeen := b.reportSeen || (tCab.isSome && b.openSlot.isSome) }

/-- The state with another track block and another slot block. -/
def withTrack (t : TrackBlock) (b : SlotBlock) (s : State) : State := { s with track := t, slots := b }

/-- Steps 1 to 4 of R120. -/
def takeReport (tCab tOut tPack : Option Int) (doorOpen : Bool) (s : State) : State :=
  if tCab.isSome then openLoopReturn (cabinReported (storeReport tCab tOut tPack doorOpen s))
  else storeReport tCab tOut tPack doorOpen s

theorem sensorArrival_eq (tCab tOut tPack : Option Int) (doorOpen : Bool) (s : State) :
    sensorArrival tCab tOut tPack doorOpen s = trackReport tCab doorOpen (takeReport tCab tOut tPack doorOpen s) := rfl

theorem takeReport_of_kept {tCab : Option Int} {s : State} (kept : ¬s.track.returns tCab) (tOut tPack : Option Int)
    (doorOpen : Bool) : takeReport tCab tOut tPack doorOpen s =
      withTrack (s.track.reported tCab tOut tPack doorOpen) (s.slots.reported tCab) s := by
  unfold takeReport
  cases tCab with
  | none => simp [storeReport, TrackBlock.reported, SlotBlock.reported, withTrack]
  | some t =>
    cases loop : s.track.openLoop with
    | false =>
      simp [storeReport, cabinReported, openLoopReturn, TrackBlock.reported, SlotBlock.reported, withTrack, loop]
    | true =>
      have still : (decide (s.track.tracker = .held) && !s.track.holdDoor) = false := by
        by_contra resumed
        simp only [Bool.not_eq_false, Bool.and_eq_true, decide_eq_true_eq, Bool.not_eq_true'] at resumed
        exact kept ⟨⟨rfl, loop⟩, resumed⟩
      simp [storeReport, cabinReported, openLoopReturn, TrackBlock.reported, SlotBlock.reported, withTrack, loop, still]

theorem takeReport_of_returns {tCab : Option Int} {s : State} (returns : s.track.returns tCab) (tOut tPack : Option Int)
    (doorOpen : Bool) : takeReport tCab tOut tPack doorOpen s =
      withTrack (s.track.reported tCab tOut tPack doorOpen).restart (s.slots.reported tCab) s := by
  obtain ⟨⟨cabin, loop⟩, held, door⟩ := returns
  obtain ⟨t, rfl⟩ := Option.isSome_iff_exists.mp cabin
  simp [takeReport, storeReport, cabinReported, openLoopReturn, TrackBlock.reported, TrackBlock.restart,
    SlotBlock.reported, withTrack, loop, held, door]

/-! ### Step 5: the door -/

/-- The tracker acquires or follows the track (R128). -/
def TrackerState.Follows (t : TrackerState) : Prop := t = .acq1 ∨ t = .acq2 ∨ t = .onTrack

theorem holdForDoor_of_follows {s : State} (follows : s.track.tracker.Follows) :
    holdForDoor s = { s with track := { s.track with tracker := .held, holdDoor := true, track := false } } := by
  rcases follows with e | e | e <;> simp only [holdForDoor, e]

theorem holdForDoor_of_held {s : State} (held : s.track.tracker = .held) :
    holdForDoor s = { s with track := { s.track with holdDoor := true } } := by
  simp only [holdForDoor, held]

theorem releaseDoor_of_free {s : State} (free : s.track.tracker ≠ .held) : releaseDoor s = s := by
  unfold releaseDoor
  split
  · next held => exact absurd held free
  all_goals rfl

theorem releaseDoor_of_held {s : State} (held : s.track.tracker = .held) :
    releaseDoor s = { s with track :=
      if s.track.holdSensor then { s.track with holdDoor := false } else { s.track with holdDoor := false }.restart } := by
  simp only [releaseDoor, held]

theorem judge_of_rest {s : State} (rest : s.track.tracker = .idle ∨ s.track.tracker = .held) (d : Nat) : judge d s = s := by
  rcases rest with e | e <;> simp only [judge, e]

theorem judgeReport_of_rest {s : State} (rest : s.track.tracker = .idle ∨ s.track.tracker = .held) (t : Int) :
    judgeReport t s = s := by
  unfold judgeReport
  split
  · rfl
  · exact judge_of_rest rest _

theorem judgeReport_of_plan {s : State} {r : PlanRecord} (plan : s.plan.plan = some r) (t : Int) :
    judgeReport t s = judge (t - r.traj s.run.remaining).natAbs s := by
  simp only [judgeReport, plan]

theorem runProfile_of_plan {s : State} {r : PlanRecord} (plan : s.plan.plan = some r) : s.runProfile = r.profile := by
  simp only [State.runProfile, plan]

/-- The tracker at rest takes no account of a report (R128, R132). -/
theorem trackReport_idle {s : State} (rest : s.track.tracker = .idle) (tCab : Option Int) (doorOpen : Bool) :
    trackReport tCab doorOpen s = s := by
  cases doorOpen with
  | true => exact holdForDoor_idle rest
  | false =>
    cases tCab with
    | none => exact releaseDoor_idle rest
    | some t =>
      change judgeReport t (releaseDoor s) = s
      rw [releaseDoor_idle rest, judgeReport_of_rest (.inl rest)]

/-! ### The tracker touches no port -/

section
variable (b : PortBlock) (s : State)

theorem takeReport_withPort (tCab tOut tPack : Option Int) (doorOpen : Bool) :
    takeReport tCab tOut tPack doorOpen (withPort b s) = withPort b (takeReport tCab tOut tPack doorOpen s) := by
  by_cases returns : s.track.returns tCab
  · rw [takeReport_of_returns returns, takeReport_of_returns (s := withPort b s) returns]
    rfl
  · rw [takeReport_of_kept returns, takeReport_of_kept (s := withPort b s) returns]
    rfl

theorem holdForDoor_withPort : holdForDoor (withPort b s) = withPort b (holdForDoor s) := by
  unfold holdForDoor
  simp only [withPort_track]
  split <;> rfl

theorem releaseDoor_withPort : releaseDoor (withPort b s) = withPort b (releaseDoor s) := by
  unfold releaseDoor
  simp only [withPort_track]
  split <;> rfl

theorem loseTrack_withPort : loseTrack (withPort b s) = withPort b (loseTrack s) := by
  have profile : (withPort b s).runProfile = s.runProfile := rfl
  have aborted : ∀ u, abortRun (withPort b u) = withPort b (abortRun u) := fun u => by
    simp only [abortRun, apply_ite (withPort b), ← enterIdle_withPort, ← endRun_withPort]
    rfl
  simp only [loseTrack, profile, withPort_track, apply_ite (withPort b), ← aborted]
  rfl

theorem judge_withPort (d : Nat) : judge d (withPort b s) = withPort b (judge d s) := by
  have profile : (withPort b s).runProfile = s.runProfile := rfl
  unfold judge
  simp only [profile, withPort_track]
  split
  · simp only [apply_ite (withPort b)]
    rfl
  · simp only [apply_ite (withPort b)]
    rfl
  · rw [apply_ite (withPort b), ← loseTrack_withPort]
  · rfl
  · rfl

theorem judgeReport_withPort (t : Int) : judgeReport t (withPort b s) = withPort b (judgeReport t s) := by
  unfold judgeReport
  simp only [withPort_plan, withPort_run]
  split
  · rfl
  · exact judge_withPort b s _

theorem sensorArrival_withPort (tCab tOut tPack : Option Int) (doorOpen : Bool) :
    sensorArrival tCab tOut tPack doorOpen (withPort b s) = withPort b (sensorArrival tCab tOut tPack doorOpen s) := by
  have tracked : ∀ u, trackReport tCab doorOpen (withPort b u) = withPort b (trackReport tCab doorOpen u) := fun u => by
    cases doorOpen with
    | true => exact holdForDoor_withPort b u
    | false =>
      cases tCab with
      | none => exact releaseDoor_withPort b u
      | some t =>
        change judgeReport t (releaseDoor (withPort b u)) = withPort b (judgeReport t (releaseDoor u))
        rw [releaseDoor_withPort, judgeReport_withPort]
  rw [sensorArrival_eq, sensorArrival_eq, takeReport_withPort, tracked]

end

/-! ### A report judged without a loss (R128 to R130) -/

/-- The tracker's state and count after a report that is judged near or not near, in ON_TRACK within the wider window. -/
def judgedStage (tracker : TrackerState) (near : Prop) [Decidable near] (count : Nat) : TrackerState × Nat :=
  if tracker = .onTrack then (.onTrack, count)
  else if ¬near then (.acq1, 0)
  else if tracker = .acq1 then (if count + 1 < 8 then (.acq1, count + 1) else (.acq2, 0))
  else if count + 1 < 12 then (.acq2, count + 1) else (.onTrack, 0)

/-- The twelfth near report in ACQ2 acquires the track (R130). -/
abbrev acquires (tracker : TrackerState) (near : Prop) (count : Nat) : Prop :=
  tracker = .acq2 ∧ near ∧ 12 ≤ count + 1

/-- The track block after a report judged near or not near. -/
def TrackBlock.judged (t : TrackBlock) (near : Prop) [Decidable near] : TrackBlock :=
  { t with
    tracker := (judgedStage t.tracker near t.acquisition).1
    acquisition := (judgedStage t.tracker near t.acquisition).2
    track := if acquires t.tracker near t.acquisition then true else t.track
    tracks := if acquires t.tracker near t.acquisition ∧ t.lossCount = 0 then true else t.tracks }

theorem acquireTrack_eq (s : State) :
    acquireTrack s = { s with
      track := { s.track with
        tracker := .onTrack, acquisition := 0, track := true
        tracks := if s.track.lossCount = 0 then true else s.track.tracks }
      router := recorded [.trackAcquired] s.router } := by
  have tracks : (s.track.tracks || s.track.lossCount == 0) = if s.track.lossCount = 0 then true else s.track.tracks := by
    by_cases none : s.track.lossCount = 0 <;> simp [none]
  unfold acquireTrack
  rw [tracks]
  exact congrArg (fun r => { s with track := { s.track with
    tracker := .onTrack, acquisition := 0, track := true
    tracks := if s.track.lossCount = 0 then true else s.track.tracks }, router := r }) (raise_router _ _)

theorem judge_eq {s : State} {d : Nat} (follows : s.track.tracker.Follows)
    (holds : s.track.tracker = .onTrack → d ≤ 2 * s.runProfile.wTrack) :
    judge d s = { s with
      track := s.track.judged (d ≤ s.runProfile.wTrack)
      router := if acquires s.track.tracker (d ≤ s.runProfile.wTrack) s.track.acquisition then
        recorded [.trackAcquired] s.router else s.router } := by
  rcases follows with stage | stage | stage
  · by_cases near : d ≤ s.runProfile.wTrack
    · by_cases more : s.track.acquisition + 1 < 8 <;>
        simp [judge, stage, near, more, TrackBlock.judged, judgedStage]
    · simp [judge, stage, near, TrackBlock.judged, judgedStage]
  · by_cases near : d ≤ s.runProfile.wTrack
    · by_cases more : s.track.acquisition + 1 < 12
      · have short : ¬11 ≤ s.track.acquisition := by omega
        simp [judge, stage, near, more, short, TrackBlock.judged, judgedStage]
      · have enough : 11 ≤ s.track.acquisition := by omega
        simp [judge, stage, near, more, enough, acquireTrack_eq, TrackBlock.judged, judgedStage]
    · simp [judge, stage, near, TrackBlock.judged, TrackBlock.restart, judgedStage]
  · have kept : s.track.judged (d ≤ s.runProfile.wTrack) = s.track := by
      simp only [TrackBlock.judged, judgedStage, acquires, stage, if_true, reduceCtorEq, false_and, if_false]
      rw [← stage]
    simp [judge, kept, stage, holds stage, acquires]

/-! ### The loss of the track (R131, R134) -/

/-- The state in which the track has been lost, before the test of abort on loss. -/
def lostTrack (s : State) : State :=
  raise .trackLost { s with track := { s.track.restart with
    track := false, tracks := false, lossCount := min 255 (s.track.lossCount + 1) } }

theorem judge_of_lost {s : State} {d : Nat} (following : s.track.tracker = .onTrack)
    (outside : 2 * s.runProfile.wTrack < d) : judge d s = loseTrack s := by
  simp only [judge, following]
  exact if_neg (not_le.mpr outside)

theorem loseTrack_of_kept {s : State}
    (kept : ¬(s.runProfile.abortOnLoss = 1 ∧ s.runProfile.lossLimit ≤ min 255 (s.track.lossCount + 1))) :
    loseTrack s = lostTrack s := by
  simp only [loseTrack, bump_eq_min]
  exact if_neg kept

theorem loseTrack_of_limit {s : State} (running : s.inRun = true)
    (limit : s.runProfile.abortOnLoss = 1 ∧ s.runProfile.lossLimit ≤ min 255 (s.track.lossCount + 1)) :
    loseTrack s = enterIdle (endRun .trackLost (lostTrack s)) := by
  simp only [loseTrack, bump_eq_min]
  rw [if_pos limit]
  exact if_pos running

/-- A report with T_cab and the door closed, while the tracker acquires or follows outside open loop, is stored and
judged. -/
theorem arrival_of_closed {s : State} {r : PlanRecord} {cab : Int} {tCab tOut tPack : Option Int}
    (present : tCab = some cab) (plan : s.plan.plan = some r) (loop : s.track.openLoop = false) (follows : s.track.tracker.Follows) :
    sensorArrival tCab tOut tPack false s = judge (cab - r.traj s.run.remaining).natAbs
      (withTrack (s.track.reported (some cab) tOut tPack false) (s.slots.reported (some cab)) s) := by
  subst present
  have kept : ¬s.track.returns (some cab) := fun ⟨⟨_, opened⟩, _⟩ => by simp [loop] at opened
  have free : s.track.tracker ≠ .held := by rcases follows with e | e | e <;> simp [e]
  rw [sensorArrival_eq, takeReport_of_kept kept]
  refine (congrArg (judgeReport cab) (releaseDoor_of_free ?_)).trans (judgeReport_of_plan
    (s := withTrack (s.track.reported (some cab) tOut tPack false) (s.slots.reported (some cab)) s) plan cab)
  exact free

/-! ### The request -/

/-- Where every frame that was held stays held, none is served at the end of the step. -/
theorem serveReleased_of_held {before s : State}
    (held : ∀ q, before.run.held.get q = true → s.run.held.get q = true) : serveReleased before s = s := by
  refine serveReleased_none fun q was => ?_
  unfold State.candidate
  split <;> simp [held q was]

theorem doorOf_of_two_le {door : Byte} (beyond : 2 ≤ door.toNat) : doorOf door = none := by
  have closed : door ≠ 0 := fun e => by simp [e] at beyond
  have opened : door ≠ 1 := fun e => by simp [e] at beyond
  rw [doorOf, if_neg closed, if_neg opened]

theorem doorOf_of_lt_two {door : Byte} (known : door.toNat < 2) : doorOf door = some (decide (door.toNat = 1)) := by
  rcases byte_of_lt_two known with rfl | rfl <;> rfl

theorem serveRequest_sensorReport (tCab tOut tPack : U16) (door : Byte) (s : State) :
    serveRequest .climate .sensorReport (le16 tCab ++ le16 tOut ++ le16 tPack ++ [door]) s =
      serveSensorReport tCab tOut tPack door s := by
  have first : fieldAt (le16 tCab ++ le16 tOut ++ le16 tPack ++ [door]) 0 = tCab := word16_bytes tCab
  have second : fieldAt (le16 tCab ++ le16 tOut ++ le16 tPack ++ [door]) 2 = tOut := word16_bytes tOut
  have third : fieldAt (le16 tCab ++ le16 tOut ++ le16 tPack ++ [door]) 4 = tPack := word16_bytes tPack
  rw [serveRequest, first, second, third]
  rfl

theorem exec_sensorReport_rejected {s : State} {door : Byte} (h : s.ready .climate = true) (beyond : 2 ≤ door.toNat)
    (tCab tOut tPack : U16) :
    exec (.sensorReport .climate tCab tOut tPack door) s = .next (refused .climate 0x13 0x40 s) := by
  have serve : ∀ t, serveSensorReport tCab tOut tPack door t = (t, .refused .range) := fun t => by
    rw [serveSensorReport, doorOf_of_two_le beyond]
  exact congrArg Host.Outcome.next (request_rejected (r := .sensorReport)
    (payload := le16 tCab ++ le16 tOut ++ le16 tPack ++ [door]) h rfl (.inr rfl) (by decide)
    (by simp [heldCode, Request.code]) ((serveRequest_sensorReport tCab tOut tPack door _).trans (serve _)))

/-- The bytes of a Sensor Report response (R119). -/
def trackFields (t : TrackBlock) : List Byte :=
  [t.tracker.code, t.readiness.code, byteOf (t.track.toNat + 2 * t.tracks.toNat + 4 * t.sensorLost.toNat)]

theorem serveSensorReport_of_door {door : Byte} {d : Bool} (known : doorOf door = some d) (tCab tOut tPack : U16)
    (s : State) : serveSensorReport tCab tOut tPack door s =
      (sensorArrival (receiveTemp tCab) (receiveTemp tOut) (receiveTemp tPack) d s,
        .ok (trackFields (sensorArrival (receiveTemp tCab) (receiveTemp tOut) (receiveTemp tPack) d s).track)) := by
  simp only [serveSensorReport, known, sensorFlags, flagsByte_three, trackFields]

/-- An accepted report: the port answers beside what the arrival does, and the frames that it releases are served. -/
theorem exec_sensorReport_accepted {s t : State} {door : Byte} {d : Bool} {tCab tOut tPack : U16}
    (h : s.ready .climate = true) (known : doorOf door = some d)
    (arrival : sensorArrival (receiveTemp tCab) (receiveTemp tOut) (receiveTemp tPack) d s = t) :
    exec (.sensorReport .climate tCab tOut tPack door) s =
      .next (serveReleased s (answeredOk .climate 0x40 (trackFields t.track) t)) := by
  refine congrArg Host.Outcome.next (request_blind (r := .sensorReport)
    (payload := le16 tCab ++ le16 tOut ++ le16 tPack ++ [door]) h rfl (.inr rfl) (by decide)
    (by simp [heldCode, Request.code]) (fun b _ => ?_) (by rw [← arrival, sensorArrival_port]))
  rw [serveRequest_sensorReport, serveSensorReport_of_door known, sensorArrival_withPort, arrival]
  rfl

/-- A report after which every held frame stays held. -/
theorem exec_sensorReport_calm {s t : State} {door : Byte} {d : Bool} {tCab tOut tPack : U16}
    (h : s.ready .climate = true) (known : doorOf door = some d)
    (arrival : sensorArrival (receiveTemp tCab) (receiveTemp tOut) (receiveTemp tPack) d s = t) (run : t.run = s.run) :
    exec (.sensorReport .climate tCab tOut tPack door) s =
      .next (answeredOk .climate 0x40 (trackFields t.track) t) := by
  rw [exec_sensorReport_accepted h known arrival, serveReleased_of_held]
  exact fun q was => (congrArg (fun r : RunBlock => r.held.get q) run).trans was

theorem receiveTemp_eq (w : U16) :
    receiveTemp w = if w = 0x8000 then none else some (max (-400) (min 600 w.toInt)) := by
  rw [receiveTemp, clampInt_eq_max_min (by decide)]

end Sys2Proof.Machine

section
open Sys2Proof Sys2Proof.Machine

/-- Settles O18: the stored values (`takeReport_of_kept`, `takeReport_of_returns`), then the tracker at rest, the open
door, and the closed door. -/
theorem sensorReportStoresValues : Obligations.SensorReportStoresValues := by
  intro tCab tOut tPack door s ready sent received cabin returns sensorLeft stored resumed slots flags answer follows
  have receives : ∀ w, receiveTemp w = received w := receiveTemp_eq
  have keeps : ∀ x y : Option Int, x.or y = if x.isSome then x else y := fun x y => by cases x <;> rfl
  have report : s.track.reported (received tCab) (received tOut) (received tPack) (decide (door.toNat = 1)) = stored := by
    simp only [TrackBlock.reported, keeps]
    rfl
  have answers : ∀ t, door.toNat < 2 →
      sensorArrival (received tCab) (received tOut) (received tPack) (decide (door.toNat = 1)) s = withTrack t slots s →
      sent = answer t := fun t known arrival =>
    exec_sensorReport_calm ready (doorOf_of_lt_two known) (by rw [receives, receives, receives]; exact arrival) rfl
  have kept : ¬s.track.returns (received tCab) → takeReport (received tCab) (received tOut) (received tPack)
      (decide (door.toNat = 1)) s = withTrack stored slots s := fun kept => by
    rw [takeReport_of_kept kept, report]
    rfl
  have free : s.track.tracker ≠ .held → ¬s.track.returns (received tCab) := fun free back => free back.2.1
  have restarted : s.track.returns (received tCab) → takeReport (received tCab) (received tOut) (received tPack)
      (decide (door.toNat = 1)) s = withTrack stored.restart slots s := fun back => by
    rw [takeReport_of_returns back, report]
    rfl
  refine ⟨fun beyond => exec_sensorReport_rejected ready beyond tCab tOut tPack, fun known rest => ?rest,
    fun opened following => ?opened, fun opened held => ?openedHeld, fun closed without following => ?closed,
    fun closed held => ⟨fun left => ?sensor, fun clear without => ?unjudged, fun clear r plan cab present => ?judged⟩⟩
  case rest =>
    refine answers _ known ?_
    rw [sensorArrival_eq, kept (free (by simp [rest]))]
    exact trackReport_idle (s := withTrack stored slots s) rest _ _
  case opened =>
    subst opened
    refine answers _ (by decide) ?_
    rw [sensorArrival_eq, kept (free (by rcases following with e | e | e <;> simp [e]))]
    exact holdForDoor_of_follows (s := withTrack stored slots s) following
  case openedHeld =>
    subst opened
    intro restarts
    refine answers _ (by decide) ?_
    by_cases back : s.track.returns (received tCab)
    · have again : restarts = true := by
        obtain ⟨⟨seen, loop⟩, -, door⟩ := back
        simp [restarts, returns, cabin, seen, loop, door]
      have state : stored.tracker = .held := held
      rw [sensorArrival_eq, restarted back, again]
      refine (holdForDoor_of_follows (s := withTrack stored.restart slots s) (.inl rfl)).trans ?_
      simp [withTrack, TrackBlock.restart, ← state]
    · have still : restarts = false := by
        by_contra again
        simp only [restarts, returns, Bool.not_eq_false, Bool.and_eq_true, Bool.not_eq_true'] at again
        obtain ⟨⟨seen, loop⟩, door⟩ := again
        exact back ⟨⟨seen, loop⟩, held, door⟩
      rw [sensorArrival_eq, kept back, still]
      exact holdForDoor_of_held (s := withTrack stored slots s) held
  case closed =>
    subst closed
    refine answers _ (by decide) ?_
    have moves : s.track.tracker ≠ .held := by rcases following with e | e | e <;> simp [e]
    rw [sensorArrival_eq, kept (free moves), Option.isSome_eq_false_iff.mp without |> Option.isNone_iff_eq_none.mp]
    exact releaseDoor_of_free (s := withTrack stored slots s) moves
  case sensor =>
    subst closed
    refine answers _ (by decide) ?_
    have stays : ¬s.track.returns (received tCab) := fun ⟨⟨seen, loop⟩, _⟩ => by
      simp [sensorLeft, returns, cabin, seen, loop] at left
    have released : releaseDoor (withTrack stored slots s) = withTrack { stored with holdDoor := false } slots s := by
      rw [releaseDoor_of_held (s := withTrack stored slots s) held]
      exact congrArg (fun t => withTrack t slots s) (if_pos left)
    rw [sensorArrival_eq, kept stays]
    cases received tCab with
    | none => exact released
    | some t =>
      refine (congrArg (judgeReport t) released).trans 
        (judgeReport_of_rest (s := withTrack { stored with holdDoor := false } slots s) (.inr held) t)
  case unjudged =>
    subst closed
    refine answers _ (by decide) ?_
    have stays : ¬s.track.returns (received tCab) := fun back => by
      have seen : cabin = true := back.1.1
      simp [without] at seen
    rw [sensorArrival_eq, kept stays, Option.isSome_eq_false_iff.mp without |> Option.isNone_iff_eq_none.mp]
    refine (releaseDoor_of_held (s := withTrack stored slots s) held).trans ?_
    exact congrArg (fun t => withTrack t slots s) (if_neg (by simp [withTrack, stored, clear]))
  case judged =>
    subst closed
    intro near
    refine answers _ (by decide) ?_
    have released : releaseDoor (takeReport (received tCab) (received tOut) (received tPack) (decide ((0 : Byte).toNat = 1)) s) =
        withTrack resumed slots s := by
      by_cases back : s.track.returns (received tCab)
      · rw [restarted back, releaseDoor_of_free (by simp [withTrack, TrackBlock.restart])]
        have door : s.track.holdDoor = false := back.2.2
        simp [withTrack, resumed, TrackBlock.restart, stored, door]
      · rw [kept back, releaseDoor_of_held (s := withTrack stored slots s) held]
        exact congrArg (fun t => withTrack t slots s) (if_neg (by simp [withTrack, stored, clear]))
    rw [sensorArrival_eq, present]
    rw [present] at released
    refine (congrArg (judgeReport cab) released).trans ?_
    rw [judgeReport_of_plan (s := withTrack resumed slots s) plan, judge_eq (.inl rfl) (by simp [withTrack, resumed])]
    have count : ∀ near : Prop, [Decidable near] → resumed.judged near =
        { resumed with acquisition := if near then 1 else 0 } := fun near _ => by
      by_cases is : near <;> simp [TrackBlock.judged, judgedStage, resumed, is]
    have profile : (withTrack resumed slots s).runProfile = r.profile := runProfile_of_plan plan
    have quiet : ∀ near, ¬acquires (withTrack resumed slots s).track.tracker near (withTrack resumed slots s).track.acquisition :=
      fun near => by simp [acquires, withTrack, resumed]
    rw [profile, if_neg (quiet _)]
    exact congrArg (fun t => withTrack t slots s) (count near)

/-- Settles O19: the report is stored and judged (`arrival_of_closed`), in one of the stages of `judge_eq`. -/
theorem reportJudgedAgainstTrajectory : Obligations.ReportJudgedAgainstTrajectory := by
  intro tCab tOut tPack cab r s ready present plan loop moves free deviation near count acquires holds stage
  have follows : s.track.tracker.Follows := by
    cases state : s.track.tracker <;> simp_all [TrackerState.Follows]
  have stored : s.track.reported (some cab) (receiveTemp tOut) (receiveTemp tPack) false = { s.track with
      tCab := some cab
      tOut := (receiveTemp tOut).or s.track.tOut
      tPack := (receiveTemp tPack).or s.track.tPack
      doorOpen := false
      sensorTimer := some s.track.sensorTimeout } := by
    simp [TrackBlock.reported, loop]
  have arrival := arrival_of_closed (tOut := receiveTemp tOut) (tPack := receiveTemp tPack) present plan loop follows
  have profile : ∀ t b, (withTrack t b s).runProfile = r.profile := fun _ _ => runProfile_of_plan plan
  rw [stored, judge_eq (by exact follows) (by rw [profile]; exact holds), profile] at arrival
  exact ⟨_, exec_sensorReport_calm ready rfl arrival rfl, rfl, rfl, rfl, rfl, rfl, rfl, rfl, rfl, rfl⟩

/-- Settles O20: the track is lost (`lostTrack`), and the run goes on or ends (`loseTrack_of_limit`, `endRun_eq`,
`enterIdle_eq`). -/
theorem reportOutsideWindowLosesTrack : Obligations.ReportOutsideWindowLosesTrack := by
  intro tCab tOut tPack cab r s ready present plan loop following outside running losses aborts
  have stored : s.track.reported (some cab) (receiveTemp tOut) (receiveTemp tPack) false = { s.track with
      tCab := some cab
      tOut := (receiveTemp tOut).or s.track.tOut
      tPack := (receiveTemp tPack).or s.track.tPack
      doorOpen := false
      sensorTimer := some s.track.sensorTimeout } := by
    simp [TrackBlock.reported, loop]
  have arrival := arrival_of_closed (tOut := receiveTemp tOut) (tPack := receiveTemp tPack) present plan loop
    (.inr (.inr following))
  have profile : ∀ t b, (withTrack t b s).runProfile = r.profile := fun _ _ => runProfile_of_plan plan
  rw [stored, judge_of_lost (by exact following) (by rw [profile]; exact outside)] at arrival
  have served := exec_sensorReport_accepted ready (door := 0) rfl arrival
  by_cases limit : aborts
  · rw [loseTrack_of_limit (by exact running) (by rw [profile]; exact limit), enterIdle_eq, endRun_eq] at served
    refine ⟨_, served, rfl, rfl, rfl, absurd limit, fun _ => ⟨rfl, rfl, rfl, rfl, rfl, rfl, rfl, rfl, ?_, rfl, _, rfl, rfl,
      rfl, rfl, rfl⟩⟩
    exact issueZero_grants _
  · rw [loseTrack_of_kept (by rw [profile]; exact limit)] at served
    refine ⟨_, served, rfl, rfl, rfl, fun _ => ⟨?_, rfl, rfl, ?_, rfl, rfl, rfl, rfl, rfl, rfl⟩, fun is => absurd is limit⟩
    · exact serveReleased_of_held fun _ => id
    · exact raise_router _ _

end

/-! PROOFS. The Actuator Status (R79, R80, R93, R94, R115, R116): which loads enter FAULTED, the acknowledgement, the
measured total with the overdraw removal, and O21, O22, O23. -/

namespace Sys2Proof.Machine

/-! ### One load's report (R79) -/

/-- A report of its load under which the load enters FAULTED: FAULT, or OFF while the load runs with a grant of the set
that the report names. -/
abbrev LoadRecord.FaultsAt (r : LoadRecord) (grant : Nat) (current : Bool) (code : Byte) : Prop :=
  (code = 3 ∧ r.state ≠ .faulted) ∨ (code = 0 ∧ r.state = .running ∧ grant ≠ 0 ∧ current = true)

theorem report_of_fault {r : LoadRecord} {grant : Nat} {current : Bool} {code : Byte}
    (fault : r.FaultsAt grant current code) :
    r.report grant current code =
      { r with state := .faulted, age := 0, cause := some (if code = 3 then .reported else .dropped) } := by
  rcases fault with ⟨rfl, sane⟩ | ⟨rfl, running, granted, named⟩
  · simp [LoadRecord.report, LoadRecord.fault, LoadRecord.enter, sane]
  · simp [LoadRecord.report, LoadRecord.fault, LoadRecord.enter, running, granted, named]

theorem report_of_calm {r : LoadRecord} {grant : Nat} {current : Bool} {code : Byte}
    (calm : ¬r.FaultsAt grant current code) :
    r.report grant current code =
      if code = 2 ∧ r.state = .starting then { r with state := .running, age := 0 } else r := by
  obtain ⟨notFault, notDropped⟩ := not_or.mp calm
  unfold LoadRecord.report
  by_cases off : code = 0
  · subst off
    rw [if_pos rfl, if_neg fun h => notDropped ⟨rfl, h⟩]
    rfl
  · rw [if_neg off]
    by_cases on : code = 2
    · simp [on, LoadRecord.enter]
    · rw [if_neg on, if_neg (c := code = 2 ∧ r.state = .starting) fun h => on h.1]
      by_cases fault : code = 3
      · rw [if_pos fault, if_pos (not_not.mp fun sane => notFault ⟨fault, sane⟩)]
      · rw [if_neg fault]

/-- A report takes its load into FAULTED exactly where it faults it. -/
theorem report_faulted_iff (r : LoadRecord) (grant : Nat) (current : Bool) (code : Byte) :
    ((r.report grant current code).state = .faulted ∧ r.state ≠ .faulted) ↔ r.FaultsAt grant current code := by
  by_cases fault : r.FaultsAt grant current code
  · have sane : r.state ≠ .faulted := by
      rcases fault with ⟨-, sane⟩ | ⟨-, running, -⟩
      · exact sane
      · simp [running]
    simp [report_of_fault fault, fault, sane]
  · rw [report_of_calm fault]
    simp only [fault, iff_false, not_and, not_not]
    split
    · exact fun h => nomatch h
    · exact id

/-! ### The records of a report, and what the faults hand over (R80) -/

/-- The records after a report that gives each load a code. -/
def LoadBlock.reported (b : LoadBlock) (current : Bool) (states : PerLoad Byte) : PerLoad LoadRecord :=
  .ofFn fun l => (b.records.get l).report (b.grants.get l) current (states.get l)

/-- What a report's faults hand over for each load. -/
def LoadBlock.faultsHanded (b : LoadBlock) (current : Bool) (states : PerLoad Byte) : Handed :=
  .ofFn fun l =>
    if (b.records.get l).FaultsAt (b.grants.get l) current (states.get l) then some (0, .faulted) else none

theorem faultedLoads_reported (b : LoadBlock) (current : Bool) (states : PerLoad Byte) :
    faultedLoads b.records (b.reported current states) = b.faultsHanded current states := by
  ext l : 1
  simp only [faultedLoads, LoadBlock.faultsHanded, LoadBlock.reported, PerLoad.get_ofFn, report_faulted_iff]

theorem applyRecords_of_calm {records : PerLoad LoadRecord} {s : State}
    (calm : faultedLoads s.loads.records records = Handed.nothing) :
    applyRecords records s = { s with loads := { s.loads with records := records } } := if_pos calm

theorem applyRecords_of_fault {records : PerLoad LoadRecord} {s : State}
    (fault : faultedLoads s.loads.records records ≠ Handed.nothing) :
    applyRecords records s = { s with
      loads := { s.loads with records := records }.issued s.loads.records.hpc (faultedLoads s.loads.records records)
      router := recorded [.grantChanged, .loadFault] s.router } := by
  refine (if_neg fault).trans ?_
  have router := raise_router .loadFault (issueFrom s.loads.records.hpc (faultedLoads s.loads.records records)
    { s with loads := { s.loads with records := records } })
  rw [issueFrom_router, recorded_recorded] at router
  exact congrArg (fun r => { s with
      loads := { s.loads with records := records }.issued s.loads.records.hpc (faultedLoads s.loads.records records)
      router := r }) router

/-- The acknowledgement of the current sequence (R94). -/
def LoadBlock.acknowledged (b : LoadBlock) (current : Bool) : LoadBlock := { b with
  ackGrants := if current then b.grants else b.ackGrants
  ackCurrent := current || b.ackCurrent }

theorem acknowledge_loads (sequence : Byte) (s : State) :
    acknowledge sequence s = { s with loads := s.loads.acknowledged (decide (sequence = s.loads.sequence)) } := by
  unfold acknowledge
  by_cases named : sequence = s.loads.sequence <;> simp [named, LoadBlock.acknowledged]

/-- An issue is one whose minimum-on test looks back to the record given, with the forced-off count of R82 written
out. -/
theorem issued_eq (b : LoadBlock) (r : LoadRecord) (handed : Handed) (s : State) :
    let new := (issue handed { s with loads := b }).loads
    b.issued r handed = { new with
      forcedOff := if (r.state = .running ∧ r.age < 120) ∧ b.grants.hpc ≠ 0 ∧ new.grants.hpc = 0 then
          min 255 (b.forcedOff + 1)
        else b.forcedOff } := by
  intro new
  obtain ⟨-, -, -, forcedOff⟩ := issueFrom_spec r handed { s with loads := b }
  have count : (b.issued r handed).forcedOff =
      if (r.state = .running ∧ r.age < 120) ∧ b.grants.hpc ≠ 0 ∧ new.grants.hpc = 0 then min 255 (b.forcedOff + 1)
      else b.forcedOff := by
    refine forcedOff.trans (if_congr ?_ (bump_eq_min 255 _) rfl)
    have removed : new.grants.hpc = (issuedSet b handed).hpc.1 := rfl
    rw [removed, minimumOn_iff]
    tauto
  rw [← count]
  rfl

/-- A load whose grant the faults remove is left without one, with reason FAULTED. -/
theorem issued_of_handed {b : LoadBlock} {handed : Handed} {l : Load} {why : Reason} (r : LoadRecord)
    (given : handed.get l = some (0, why)) :
    (b.issued r handed).grants.get l = 0 ∧ (b.issued r handed).reasons.get l = why := by
  have one : issueOne (b.records.get l) (b.grants.get l, b.reasons.get l) (handed.get l) = (0, why) := by
    rw [issueOne_eq, given]
    rfl
  have set : (issuedSet b handed).get l = (0, why) := by
    rw [issuedSet_get]
    simp [one]
  simp only [LoadBlock.issued, PerLoad.get_ofFn, set, and_self]

/-! ### The overdraw removal (R116) -/

theorem lastGranted_of_last {p : Profile} {grants : PerLoad Nat} {l : Load} (granted : grants.get l ≠ 0)
    (last : ∀ m, grants.get m ≠ 0 → p.level m < p.level l ∨ (p.level m = p.level l ∧ m.number ≤ l.number)) :
    lastGranted p grants = some l := by
  obtain ⟨front, rest, split⟩ := List.append_of_mem (mem_order p l)
  refine List.find?_eq_some_iff_append.mpr ⟨by simpa using granted, rest.reverse, front.reverse, by simp [split], ?_⟩
  intro m later
  have after : p.precedes l m := (Profile.mem_rest_iff_precedes split m).mp (List.mem_reverse.mp later)
  have none : grants.get m = 0 := by
    by_contra other
    have := last m other
    omega
  simp [none]

theorem lastGranted_of_none (p : Profile) : lastGranted p (.all 0) = none := by
  simp [lastGranted]

@[simp] theorem overdrawRemoval_power (r : LoadRecord) (s : State) :
    (overdrawRemoval r s).power = { s.power with overdraw := 0 } := by
  unfold overdrawRemoval
  dsimp only
  split <;> rfl

theorem overdrawRemoval_keeps (r : LoadRecord) (s : State) :
    let t := overdrawRemoval r s
    t.run = s.run ∧ t.plan = s.plan ∧ t.slots = s.slots ∧ t.track = s.track ∧ t.store = s.store ∧ t.log = s.log := by
  simp

theorem overdrawRemoval_of_last {r : LoadRecord} {s : State} {l : Load}
    (last : lastGranted s.inForce s.loads.grants = some l) :
    (overdrawRemoval r s).loads = s.loads.issued r (Handed.nothing.set l (some (0, .shed))) ∧
      (overdrawRemoval r s).router = recorded [.grantChanged, .overdraw] s.router := by
  refine ⟨by simp only [overdrawRemoval, last]; rfl, ?_⟩
  simp [overdrawRemoval, last]

/-- GRANT_CHANGED recorded twice is recorded once. -/
theorem setOf_grantChanged_again : EventKind.setOf ([.grantChanged, .loadFault] ++ [.grantChanged, .overdraw]) =
    EventKind.setOf [.grantChanged, .loadFault, .overdraw] := by decide

theorem overdrawRemoval_of_none {r : LoadRecord} {s : State}
    (none : lastGranted s.inForce s.loads.grants = none) :
    (overdrawRemoval r s).loads = s.loads ∧
      (overdrawRemoval r s).router = recorded [.overdraw] s.router := by
  simp [overdrawRemoval, none]

/-! ### The measured total (R115) -/

theorem takeMeasured_of_kept {total : Nat} {current : Bool} {s : State} (r : LoadRecord)
    (kept : current = true ∧ s.power.budget * 105 / 100 < total → s.power.overdraw + 1 < 3) :
    takeMeasured r total current s = { s with power := { s.power with
      measured := total
      overdraw := if current = true ∧ s.power.budget * 105 / 100 < total then s.power.overdraw + 1
        else if current then 0 else s.power.overdraw } } := by
  cases current with
  | false => simp [takeMeasured]
  | true =>
    by_cases above : s.power.budget * 105 / 100 < total
    · simp [takeMeasured, above, kept ⟨rfl, above⟩]
    · simp [takeMeasured, above]

theorem takeMeasured_of_third {total : Nat} {s : State} (r : LoadRecord)
    (above : s.power.budget * 105 / 100 < total) (third : 2 ≤ s.power.overdraw) :
    takeMeasured r total true s = overdrawRemoval r { s with power := { s.power with measured := total } } := by
  have reached : ¬s.power.overdraw + 1 < 3 := by omega
  simp [takeMeasured, above, reached]

/-! ### The request -/

/-- The measured total of a report (R115). -/
abbrev measuredTotal (draws : PerLoad U16) : Nat :=
  draws.blw.toNat + draws.hpc.toNat + draws.air.toNat + draws.scr.toNat + draws.seat.toNat + draws.bat.toNat

theorem actuatorArrival_eq (sequence : Byte) (states : PerLoad Byte) (draws : PerLoad U16) (s : State) :
    actuatorArrival sequence states draws s =
      takeMeasured s.loads.records.hpc (measuredTotal draws)
        (decide (sequence = s.loads.sequence))
        (applyRecords (s.loads.reported (decide (sequence = s.loads.sequence)) states)
          { s with loads := s.loads.acknowledged (decide (sequence = s.loads.sequence)) }) := by
  rw [actuatorArrival, acknowledge_loads]
  rfl

/-- The load block after a report that faults no load: the acknowledgement, and a start that a RUNNING report ends. -/
def LoadBlock.started (b : LoadBlock) (current : Bool) (states : PerLoad Byte) : LoadBlock :=
  { b.acknowledged current with
    records := .ofFn fun l =>
      if states.get l = 2 ∧ (b.records.get l).state = .starting then
        { b.records.get l with state := .running, age := 0 }
      else b.records.get l }

theorem actuatorArrival_of_calm {sequence : Byte} {states : PerLoad Byte} (draws : PerLoad U16) {s : State}
    {current : Bool} {loads : LoadBlock} (named : decide (sequence = s.loads.sequence) = current)
    (started : s.loads.started current states = loads)
    (calm : ∀ l, ¬(s.loads.records.get l).FaultsAt (s.loads.grants.get l) current (states.get l)) :
    actuatorArrival sequence states draws s =
      takeMeasured s.loads.records.hpc (measuredTotal draws) current { s with loads := loads } := by
  have handed : faultedLoads s.loads.records (s.loads.reported current states) = Handed.nothing := by
    rw [faultedLoads_reported]
    ext l : 1
    simp [LoadBlock.faultsHanded, calm, Handed.nothing]
  have records : s.loads.reported current states = (s.loads.started current states).records := by
    ext l : 1
    simp [LoadBlock.reported, LoadBlock.started, report_of_calm (calm l)]
  rw [actuatorArrival_eq, named, applyRecords_of_calm (by exact handed), records, ← started]
  rfl

/-- The load block of a report that faults loads, before its issue. -/
def LoadBlock.faulted (b : LoadBlock) (current : Bool) (states : PerLoad Byte) : LoadBlock :=
  { b.acknowledged current with
    records := .ofFn fun l =>
      if (b.records.get l).FaultsAt (b.grants.get l) current (states.get l) then
        { b.records.get l with
          state := .faulted, age := 0, cause := some (if states.get l = 3 then .reported else .dropped) }
      else if states.get l = 2 ∧ (b.records.get l).state = .starting then
        { b.records.get l with state := .running, age := 0 }
      else b.records.get l }

theorem actuatorArrival_of_fault {sequence : Byte} {states : PerLoad Byte} (draws : PerLoad U16) {s : State}
    {current : Bool} {loads : LoadBlock} (named : decide (sequence = s.loads.sequence) = current)
    (issued : (s.loads.faulted current states).issued s.loads.records.hpc (s.loads.faultsHanded current states) = loads)
    (fault : ∃ l, (s.loads.records.get l).FaultsAt (s.loads.grants.get l) current (states.get l)) :
    actuatorArrival sequence states draws s =
      takeMeasured s.loads.records.hpc (measuredTotal draws) current
        { s with loads := loads, router := recorded [.grantChanged, .loadFault] s.router } := by
  obtain ⟨l, faults⟩ := fault
  have handed : faultedLoads s.loads.records (s.loads.reported current states) ≠ Handed.nothing := by
    rw [faultedLoads_reported]
    intro none
    have given := congrArg (·.get l) none
    simp [LoadBlock.faultsHanded, faults, Handed.nothing] at given
  have records : s.loads.reported current states = (s.loads.faulted current states).records := by
    ext l : 1
    simp only [LoadBlock.reported, LoadBlock.faulted, PerLoad.get_ofFn]
    split
    · next faults => exact report_of_fault faults
    · next calm => exact report_of_calm calm
  rw [actuatorArrival_eq, named, applyRecords_of_fault (by exact handed), ← issued]
  simp only [LoadBlock.acknowledged]
  rw [faultedLoads_reported, records]
  rfl

section
variable (b : PortBlock) (s : State)

theorem applyRecords_withPort (records : PerLoad LoadRecord) :
    applyRecords records (withPort b s) = withPort b (applyRecords records s) := by
  simp only [applyRecords, withPort_loads, apply_ite (withPort b)]
  rfl

theorem overdrawRemoval_withPort (r : LoadRecord) :
    overdrawRemoval r (withPort b s) = withPort b (overdrawRemoval r s) := by
  have same : (withPort b s).inForce = s.inForce := rfl
  simp only [overdrawRemoval, same, withPort_loads]
  split <;> rfl

theorem takeMeasured_withPort (r : LoadRecord) (total : Nat) (current : Bool) :
    takeMeasured r total current (withPort b s) = withPort b (takeMeasured r total current s) := by
  simp only [takeMeasured, apply_ite (withPort b), ← overdrawRemoval_withPort]
  rfl

theorem actuatorArrival_withPort (sequence : Byte) (states : PerLoad Byte) (draws : PerLoad U16) :
    actuatorArrival sequence states draws (withPort b s) = withPort b (actuatorArrival sequence states draws s) := by
  simp only [actuatorArrival_eq, ← takeMeasured_withPort, ← applyRecords_withPort]
  rfl

end

theorem any_code_iff (states : PerLoad Byte) :
    (states.toList.any fun c => decide (4 ≤ c.toNat)) = true ↔ ∃ l, 4 ≤ (states.get l).toNat := by
  rw [List.any_eq_true]
  refine ⟨fun ⟨c, mem, big⟩ => ?_, fun ⟨l, big⟩ => ⟨states.get l, ?_, by simpa using big⟩⟩
  · simp only [PerLoad.toList, List.mem_cons, List.not_mem_nil, or_false, decide_eq_true_eq] at mem big
    rcases mem with rfl | rfl | rfl | rfl | rfl | rfl
    exacts [⟨.blw, big⟩, ⟨.hpc, big⟩, ⟨.air, big⟩, ⟨.scr, big⟩, ⟨.seat, big⟩, ⟨.bat, big⟩]
  · cases l <;> simp [PerLoad.toList, PerLoad.get]

/-- The payload of an Actuator Status carries its fields (R93). -/
theorem serveRequest_actuatorStatus (p : Port) (sequence : Byte) (states : PerLoad Byte) (draws : PerLoad U16)
    (s : State) :
    serveRequest p .actuatorStatus ([sequence] ++ states.toList ++ draws.toList.flatMap le16) s =
      serveActuatorStatus sequence states draws s := by
  have codes : (PerLoad.ofFn fun l =>
      ([sequence] ++ states.toList ++ draws.toList.flatMap le16).getD (1 + l.number) 0) = states := by
    ext l : 1
    cases l <;> rfl
  have watts : (PerLoad.ofFn fun l =>
      fieldAt ([sequence] ++ states.toList ++ draws.toList.flatMap le16) (7 + 2 * l.number)) = draws := by
    ext l : 1
    cases l <;> exact word16_bytes _
  exact congrArg₂ (fun x d => serveActuatorStatus sequence x d s) codes watts

theorem exec_actuatorStatus_rejected {sequence : Byte} {states : PerLoad Byte} {draws : PerLoad U16} {s : State}
    (ready : s.ready .climate = true) (unknown : ∃ l, 4 ≤ (states.get l).toNat) :
    exec (.actuatorStatus .climate sequence states draws) s = .next (refused .climate 0x13 0x41 s) :=
  congrArg Host.Outcome.next (request_rejected (r := .actuatorStatus)
    (payload := [sequence] ++ states.toList ++ draws.toList.flatMap le16) ready rfl (.inr rfl) (by decide)
    (by simp [heldCode, Request.code])
    ((serveRequest_actuatorStatus ..).trans (if_pos ((any_code_iff states).mpr unknown))))

theorem exec_actuatorStatus_accepted {sequence : Byte} {states : PerLoad Byte} {draws : PerLoad U16} {s t : State}
    (ready : s.ready .climate = true) (known : ∀ l, (states.get l).toNat < 4)
    (arrival : actuatorArrival sequence states draws s = t) :
    exec (.actuatorStatus .climate sequence states draws) s = .next (answeredOk .climate 0x41
      ([flagByte (decide (sequence = s.loads.sequence)), t.loads.sequence] ++ le16 (sat16 t.loads.committed)) t) := by
  have accepted : ¬(states.toList.any fun c => decide (4 ≤ c.toNat)) = true := by
    rw [any_code_iff]
    simpa using known
  subst arrival
  refine congrArg Host.Outcome.next (request_blind_calm (r := .actuatorStatus)
    (payload := [sequence] ++ states.toList ++ draws.toList.flatMap le16) ready rfl (.inr rfl) (by decide)
    (by simp [heldCode, Request.code]) (fun b _ => ?_) (actuatorArrival_port ..) fun q was => ?_)
  · rw [serveRequest_actuatorStatus, serveActuatorStatus, if_neg accepted, actuatorArrival_withPort]
    rfl
  · rw [actuatorArrival_run]
    exact was

end Sys2Proof.Machine

section
open Sys2Proof Sys2Proof.Machine

/-- Settles O21: without a fault the records and the acknowledgement stand (`actuatorArrival_of_calm`), and the count
moves by one report (`takeMeasured_of_kept`). -/
theorem actuatorStatusTakesReport : Obligations.ActuatorStatusTakesReport := by
  intro sequence states draws s ready sent current faults records total counts overdraw loads
  refine ⟨exec_actuatorStatus_rejected ready, fun known calm kept => ?_⟩
  have arrival := actuatorArrival_of_calm draws (loads := loads) (current := current) rfl rfl calm
  rw [takeMeasured_of_kept _ (by exact kept)] at arrival
  have served := exec_actuatorStatus_accepted ready known arrival
  exact served

/-- Settles O22: the faults remove their grants in one issue (`actuatorArrival_of_fault`, `issued_eq`), and the draws are
taken as in O21 and O23. -/
theorem reportedFaultRemovesGrants : Obligations.ReportedFaultRemovesGrants := by
  intro sequence states draws s ready sent current faults known fault taken minimumOn issued loads total counts overdraw
  have issue_eq : ∀ handed b, b.issued s.loads.records.hpc handed = issued handed b := fun handed b =>
    issued_eq b s.loads.records.hpc handed s
  have arrival := actuatorArrival_of_fault draws (loads := loads) (current := current) rfl (issue_eq _ _) fault
  refine ⟨fun l faulted => ?_, fun kept => ?_, fun third many => ?_⟩
  · have handed : (s.loads.faultsHanded current states).get l = some (0, .faulted) := by
      rw [LoadBlock.faultsHanded, PerLoad.get_ofFn]
      exact if_pos faulted
    have cut := issued_of_handed (b := taken.loads) s.loads.records.hpc handed
    rw [issue_eq] at cut
    exact cut
  · rw [takeMeasured_of_kept _ (by exact kept)] at arrival
    exact exec_actuatorStatus_accepted ready known arrival
  · obtain ⟨named, above⟩ := third
    let left : State := { s with
      loads := loads
      router := recorded [.grantChanged, .loadFault] s.router
      power := { s.power with measured := total } }
    rw [named, takeMeasured_of_third _ (by exact above) (by exact many)] at arrival
    have removed : actuatorArrival sequence states draws s = overdrawRemoval s.loads.records.hpc left := arrival
    have served := exec_actuatorStatus_accepted ready known removed
    refine ⟨_, served, overdrawRemoval_power s.loads.records.hpc left, ?_, fun l granted last => ?_, fun none => ?_,
      overdrawRemoval_keeps s.loads.records.hpc left⟩
    · cases found : lastGranted left.inForce left.loads.grants with
      | none => exact (overdrawRemoval_of_none (r := s.loads.records.hpc) found).2.trans (recorded_recorded _ _ s.router)
      | some l =>
        refine (overdrawRemoval_of_last (r := s.loads.records.hpc) found).2.trans
          ((recorded_recorded _ _ s.router).trans ?_)
        simp only [recorded, setOf_grantChanged_again]
    · have removal := overdrawRemoval_of_last (r := s.loads.records.hpc) (s := left)
        (lastGranted_of_last (p := s.inForce) granted last)
      exact removal.1.trans (issue_eq (Handed.nothing.set l (some (0, .shed))) loads)
    · exact (overdrawRemoval_of_none (r := s.loads.records.hpc) (s := left)
        ((congrArg (lastGranted s.inForce) none).trans (lastGranted_of_none _))).1

/-- Settles O23: the report is taken as in O21, and the removal acts on what it has left (`takeMeasured_of_third`), where
`lastGranted` is the last load in the order with a grant. -/
theorem thirdOverdrawRemovesLastGrant : Obligations.ThirdOverdrawRemovesLastGrant := by
  intro states draws s ready third total above known calm p taken minimumOn
  let left : State := { s with
    loads := taken
    power := { s.power with measured := total } }
  have arrival := actuatorArrival_of_calm (sequence := s.loads.sequence) draws (loads := taken) (decide_eq_true rfl) rfl
    (by simpa using calm)
  rw [takeMeasured_of_third _ (by exact above) (by exact third)] at arrival
  have removed : actuatorArrival s.loads.sequence states draws s = overdrawRemoval s.loads.records.hpc left := arrival
  have served := exec_actuatorStatus_accepted ready known removed
  refine ⟨_, served, overdrawRemoval_power s.loads.records.hpc left, fun l granted last => ?_, fun none => ?_,
    overdrawRemoval_keeps s.loads.records.hpc left⟩
  · have removal := overdrawRemoval_of_last (r := s.loads.records.hpc) (s := left)
      (lastGranted_of_last (p := p) granted last)
    exact ⟨removal.1.trans (issued_eq taken s.loads.records.hpc (Handed.nothing.set l (some (0, .shed))) s), removal.2⟩
  · exact overdrawRemoval_of_none (r := s.loads.records.hpc) (s := left)
      ((congrArg (lastGranted p) none).trans (lastGranted_of_none p))

end

/-! PROOFS. The events of the time base that act on loads, timers and the phase: an event that is due is taken as things
stand, and O53, O54. -/

namespace Sys2Proof.Machine

/-- An event that is due is taken as things stand: the first of its moments (log 4). -/
theorem tickThat_of_due {due : State → Bool} (act : State → State) {s : State} (awake : s.resetting = none)
    (falls : due s = true) : tickThat due act s = act s := by
  simp [tickThat, moments, awake, falls]

theorem raise_eq (k : EventKind) (s : State) : raise k s = { s with router := recorded [k] s.router } :=
  congrArg (fun r => { s with router := r }) (raise_router k s)

theorem issueFrom_eq (r : LoadRecord) (handed : Handed) (s : State) :
    issueFrom r handed s =
      { s with loads := s.loads.issued r handed, router := recorded [.grantChanged] s.router } :=
  raise_eq .grantChanged { s with loads := s.loads.issued r handed }

/-! ### When grants are live, and when a run is in progress (R1) -/

theorem live_iff (s : State) :
    s.live = true ↔ s.run.state = .conditioning ∨ s.run.state = .maintain ∨
      (s.run.state = .planning ∧ s.run.origin = some .replan) := by
  unfold State.live
  cases state : s.run.state <;> simp

theorem inRun_iff (s : State) :
    s.inRun = true ↔ s.run.state = .planning ∨ s.run.state = .conditioning ∨ s.run.state = .maintain := by
  unfold State.inRun
  cases state : s.run.state <;> simp

/-! ### Start timeouts (R78, R80, R82) -/

theorem timedOut_iff (r : LoadRecord) : r.timedOut = true ↔ r.state = .starting ∧ 15 ≤ r.age := by
  simp [LoadRecord.timedOut]

/-- The minimum-on test is all that an issue takes from the record to which it looks back. -/
theorem issued_congr {r r' : LoadRecord} (same : r.minimumOn = r'.minimumOn) (b : LoadBlock) (handed : Handed) :
    b.issued r handed = b.issued r' handed := by
  simp only [LoadBlock.issued, same]

theorem startTimeouts_eq {s : State} {records : PerLoad LoadRecord} {handed : Handed}
    (entered : ∀ l, records.get l =
      if (s.loads.records.get l).state = .starting ∧ 15 ≤ (s.loads.records.get l).age then
        { s.loads.records.get l with state := .faulted, age := 0, cause := some .noStart }
      else s.loads.records.get l)
    (given : ∀ l, handed.get l =
      if (s.loads.records.get l).state = .starting ∧ 15 ≤ (s.loads.records.get l).age then some (0, .faulted)
      else none)
    (some_late : ∃ l, (s.loads.records.get l).state = .starting ∧ 15 ≤ (s.loads.records.get l).age) :
    startTimeouts s = { issue handed { s with loads := { s.loads with records := records } } with
      router := recorded [.grantChanged, .loadFault] s.router } := by
  have after : (PerLoad.ofFn fun l =>
      if (s.loads.records.get l).timedOut then (s.loads.records.get l).fault .noStart
      else s.loads.records.get l) = records := by
    ext l : 1
    rw [PerLoad.get_ofFn, entered]
    exact if_congr (timedOut_iff _) rfl rfl
  have faults : faultedLoads s.loads.records records = handed := by
    ext l : 1
    rw [faultedLoads, PerLoad.get_ofFn, entered, given]
    by_cases late : (s.loads.records.get l).state = .starting ∧ 15 ≤ (s.loads.records.get l).age
    · simp [late]
    · rw [if_neg late, if_neg late]
      exact if_neg fun both => both.2 both.1
  have fault : faultedLoads s.loads.records records ≠ Handed.nothing := by
    obtain ⟨l, late⟩ := some_late
    intro none
    have nothing := congrArg (·.get l) none
    simp [faults, given, late, Handed.nothing] at nothing
  have lookBack : (s.loads.records.get .hpc).minimumOn = (records.get .hpc).minimumOn := by
    rw [entered]
    split
    · next late =>
      rw [LoadRecord.minimumOn, late.1]
      rfl
    · rfl
  have applied := applyRecords_of_fault fault
  rw [faults, issued_congr (by exact lookBack)] at applied
  rw [startTimeouts]
  dsimp only
  rw [after, applied, issue, issueFrom_eq]
  rfl

/-! ### The hold timer and the sensor timer (R103 to R105, R122, R124) -/

theorem holdExpiry_of_live {s : State} (live : s.power.state = .live) :
    holdExpiry s = computeBudget s.inForce { s with
      power := { s.power with holdTimer := none, state := .lost, envLost := true, source := .fallback }
      router := recorded [.envLost] s.router } := by
  simp only [holdExpiry, live, raise_eq]

theorem holdExpiry_of_other {s : State} (other : s.power.state ≠ .live) :
    holdExpiry s = { s with power := { s.power with holdTimer := none } } := by
  unfold holdExpiry
  cases state : s.power.state with
  | live => exact absurd state other
  | none | lost => rfl

theorem sensorExpiry_of_live {s : State} (live : s.live = true) :
    sensorExpiry s = { s with
      track := { s.track with
        sensorTimer := none, sensorLost := true, openLoop := true, track := false, tracker := .held,
        holdSensor := true }
      router := recorded [.sensorLost] s.router } := by
  simp only [sensorExpiry, live, if_true, declareSensorLoss, raise_eq]

theorem sensorExpiry_of_other {s : State} (other : ¬s.live = true) :
    sensorExpiry s = { s with track := { s.track with sensorTimer := none } } := if_neg other

end Sys2Proof.Machine

section
open Sys2Proof Sys2Proof.Machine

/-- Settles O53: each event is taken as things stand (`tickThat_of_due`); the timeouts are taken together
(`startTimeouts_eq`). -/
theorem phaseAndLoadTimersTakeEffect : Obligations.PhaseAndLoadTimersTakeEffect := by
  intro s awake hpc late entered
  refine ⟨fun r plan conditioning remaining counting => ?_, fun cooldown aged => ?_, fun runs aged => ?_,
    fun spent => ?_, fun some_late => ?_⟩
  · have due : phaseChangeDue s = true := by
      simp [phaseChangeDue, conditioning, runProfile_of_plan plan, ← remaining, counting]
    exact congrArg Host.Outcome.next (tickThat_of_due changePhase awake due)
  · have due : cooldownEndDue s = true := by
      simpa [cooldownEndDue] using ⟨cooldown, aged⟩
    exact congrArg Host.Outcome.next (tickThat_of_due endCooldown awake due)
  · have due : minimumOnEndDue s = true := by
      simpa [minimumOnEndDue] using ⟨runs, aged⟩
    exact congrArg Host.Outcome.next (tickThat_of_due id awake due)
  · have due : screenSpentDue s = true := by simp [screenSpentDue, spent]
    exact congrArg Host.Outcome.next (tickThat_of_due id awake due)
  · have due : startTimeoutDue s = true := by
      obtain ⟨l, isLate⟩ := some_late
      exact List.any_eq_true.mpr ⟨l, by cases l <;> decide, (timedOut_iff _).mpr isLate⟩
    have timeouts := startTimeouts_eq (s := s) (records := entered.loads.records)
      (handed := .ofFn fun l => if late l then some (0, .faulted) else none)
      (fun l => by rw [PerLoad.get_ofFn]) (fun l => by rw [PerLoad.get_ofFn]) some_late
    exact congrArg Host.Outcome.next ((tickThat_of_due startTimeouts awake due).trans timeouts)

/-- Settles O54: the hold timer's expiry computes the fallback budget (`computeBudget_keeps`, `computeBudget_sheds`), and
the sensor timer's declares the loss while grants are live (`live_iff`). -/
theorem controllerTimersExpire : Obligations.ControllerTimersExpire := by
  intro s awake live budget fallen
  have hold : s.power.holdTimer = some 0 → tickThat holdExpiryDue holdExpiry s = holdExpiry s := fun stopped =>
    tickThat_of_due holdExpiry awake (by simp [holdExpiryDue, stopped])
  have sensor : s.track.sensorTimer = some 0 → tickThat sensorExpiryDue sensorExpiry s = sensorExpiry s :=
    fun stopped => tickThat_of_due sensorExpiry awake (by simp [sensorExpiryDue, stopped])
  refine ⟨fun stopped isLive => ⟨fun fits => ?_, fun exceeds => ?_⟩, fun stopped other => ?_, fun stopped isLive => ?_,
    fun stopped other => ?_⟩
  · refine congrArg Host.Outcome.next ((hold stopped).trans ((holdExpiry_of_live isLive).trans ?_))
    exact computeBudget_keeps _ _ fits
  · refine congrArg Host.Outcome.next ((hold stopped).trans ((holdExpiry_of_live isLive).trans ?_))
    exact computeBudget_sheds _ _ exceeds
  · exact congrArg Host.Outcome.next ((hold stopped).trans (holdExpiry_of_other other))
  · exact congrArg Host.Outcome.next ((sensor stopped).trans (sensorExpiry_of_live ((live_iff s).mpr isLive)))
  · exact congrArg Host.Outcome.next ((sensor stopped).trans (sensorExpiry_of_other (mt (live_iff s).mp other)))

end

/-! PROOFS. The schedule check while no load has a grant (R7, R8, R106), and what leads to it: O49, the suspension (O32),
and an expiry of the departure (O48). -/

namespace Sys2Proof.Machine

/-! ### The re-examination of the envelope (R106) -/

theorem timerRuns_iff (timer : Option Nat) : timerRuns timer = true ↔ timer.getD 0 ≠ 0 := by
  cases timer <;> simp [timerRuns]

/-- The monitor after a re-examination, the budget apart: a LOST one whose hold timer runs returns to LIVE. -/
def PowerBlock.returned (b : PowerBlock) : PowerBlock :=
  if b.state = .lost ∧ b.holdTimer.getD 0 ≠ 0 then { b with state := .live, envLost := false, source := .live } else b

theorem returned_latest (b : PowerBlock) : b.returned.latest = b.latest := by
  unfold PowerBlock.returned
  split <;> rfl

theorem reexamine_eq (p : Profile) (s : State) :
    reexamine p s = computeBudget p { s with power := s.power.returned } := by
  rw [reexamine, PowerBlock.returned]
  simp only [timerRuns_iff]
  split <;> rfl

theorem reexamine_without_grants (p : Profile) {s : State} (none : s.loads.grants = .all 0) :
    reexamine p s = { s with power := { s.power.returned with budget := s.power.returned.budgetFor p } } := by
  rw [reexamine_eq]
  refine computeBudget_keeps p _ ?_
  rw [none]
  exact Nat.zero_le _

/-- The budget from the power that the source offers (R100). -/
theorem budgetFor_eq (b : PowerBlock) (p : Profile) :
    b.budgetFor p = (match b.source, b.latest with
      | .fallback, _ => p.fallbackW
      | .live, some e => (if e.connected then e.grid else 0) + (if p.allowPack = 0 then 0 else e.pack)
      | .live, none => 0) - p.wRes := by
  unfold PowerBlock.budgetFor
  cases b.source <;> cases b.latest <;> rfl

/-! ### The schedule check (R7, R8, R136) -/

/-- The lead that a schedule check finds for the cabin. -/
def State.checkHeating (s : State) : Option Nat := heatingTime (s.leadInputs s.activeProfile)

/-- The forecast of a schedule check, which is then no longer due. -/
def State.forecasted (s : State) : State :=
  { s with
    run := { s.run with checkDue := false }
    track := { s.track with
      readiness := readinessClass s.activeProfile (s.track.tCab.getD s.activeProfile.tAssume) s.run.remaining
        s.checkHeating
      margin := readinessMargin s.run.remaining s.activeProfile.settle s.checkHeating }
    router :=
      if readinessClass s.activeProfile (s.track.tCab.getD s.activeProfile.tAssume) s.run.remaining s.checkHeating
          = s.track.readiness then s.router
      else recorded [.readinessChanged] s.router }

theorem forecasted_router (s : State) :
    s.forecasted.router = s.router ∨ s.forecasted.router = recorded [.readinessChanged] s.router :=
  ite_eq_or_eq ..

theorem forecast_eq (p : Profile) (tCab : Int) (heating : Option Nat) (s : State) :
    forecast p tCab heating s = { s with
      track := { s.track with
        readiness := readinessClass p tCab s.run.remaining heating
        margin := readinessMargin s.run.remaining p.settle heating }
      router := if readinessClass p tCab s.run.remaining heating = s.track.readiness then s.router
        else recorded [.readinessChanged] s.router } := setReadiness_eq _ _ s

/-- A schedule check without grants: the envelope is re-examined, the forecast is made, and the lead decides. -/
theorem scheduleCheck_eq {s t : State} (scheduled : s.run.state = .scheduled) (none : s.loads.grants = .all 0)
    (reexamined : { s with power := { s.power.returned with
      budget := s.power.returned.budgetFor s.activeProfile } } = t) :
    scheduleCheck s =
      if s.run.remaining ≤ leadOf s.activeProfile s.plan.slotLength t.checkHeating then
        startGeneration .start t.forecasted
      else t.forecasted := by
  subst reexamined
  rw [scheduleCheck, scheduled]
  dsimp only
  rw [reexamine_without_grants _ none, forecast_eq]
  rfl

/-- The lead lies within the horizon of 48 slots (R36). -/
theorem leadOf_le_horizon (p : Profile) (slotLength : Nat) (heating : Option Nat) :
    leadOf p slotLength heating ≤ 48 * slotLength := by
  cases heating with
  | none => exact le_refl _
  | some t =>
    rw [leadOf_some]
    exact max_le (by omega) (min_le_left _ _)

/-- A schedule check beyond the horizon starts no generation. -/
theorem scheduleCheck_beyond {s t : State} (scheduled : s.run.state = .scheduled) (none : s.loads.grants = .all 0)
    (beyond : 48 * s.plan.slotLength < s.run.remaining)
    (reexamined : { s with power := { s.power.returned with
      budget := s.power.returned.budgetFor s.activeProfile } } = t) :
    scheduleCheck s = t.forecasted := by
  rw [scheduleCheck_eq scheduled none reexamined]
  refine if_neg fun within => ?_
  have lead := leadOf_le_horizon s.activeProfile s.plan.slotLength t.checkHeating
  omega

/-! ### The suspension (R17) -/

theorem closeSlot_plan_kept {s : State} (kept : s.slots.openSlot = none ∨ s.plan.plan = none) :
    (closeSlot s).plan = s.plan := by
  have parts : ∀ b : PlanBlock, b.plan = s.plan.plan → b.capture = s.plan.capture → b.slotLength = s.plan.slotLength →
      b = s.plan := by
    rintro ⟨⟩ rfl rfl rfl
    rfl
  exact parts _ (closeSlot_record_kept kept) (closeSlot_capture s) (closeSlot_slotLength s)

/-- The run as a suspension leaves it for the schedule check. -/
def State.suspended (s : State) : State := { s with
  run := { s.run with state := .scheduled }
  plan := (closeSlot s).plan
  slots := { s.slots with openSlot := none }
  loads := s.loads.zeroed
  power := { s.power with budget := s.power.budgetFor s.activeProfile }
  track := (trackerIdle s).track
  router := recorded ((if s.slots.openSlot.isSome then [.slotDone] else []) ++ [.grantChanged]) s.router }

theorem zeroed_grants (s : State) : s.loads.zeroed.grants = .all 0 := issueZero_grants s

theorem suspend_eq (s : State) : suspend s = scheduleCheck s.suspended := by
  have grants : ∀ u : State, (issueZero u).loads.grants.sum = 0 := fun u => by rw [issueZero_grants]; rfl
  rw [suspend]
  dsimp only
  rw [computeBudget_keeps _ _ (by simp [grants])]
  congr 1
  simp [issueZero_loads, trackerIdle, State.activeProfile, State.suspended]

theorem suspend_beyond {s : State} (beyond : 48 * s.plan.slotLength < s.run.remaining) :
    suspend s = { s.suspended with power := { s.suspended.power.returned with
      budget := s.suspended.power.returned.budgetFor s.activeProfile } }.forecasted := by
  rw [suspend_eq]
  refine scheduleCheck_beyond rfl (zeroed_grants s) ?_ rfl
  simpa [State.suspended] using beyond

theorem recorded_pendings (ks : List EventKind) (r : RouterBlock) (p : Port) :
    (recorded ks r).pendings.get p = r.pendings.get p ||| (r.masks.get p &&& EventKind.setOf ks) :=
  PerPort.get_ofFn _ p

/-! ### The second part of a tick (R61, R187) -/

/-- A state after the count by the grants. -/
def State.counted (s : State) : State := { s with
  slots := { s.slots with screenEnergy :=
    s.slots.screenEnergy - (if s.loads.records.scr.state = .running then s.loads.grants.scr else 0) }
  log := { s.log with
    countDue := .none
    acc :=
      if s.run.state = .planning ∨ s.run.state = .conditioning ∨ s.run.state = .maintain then
        { s.log.acc with
          duration := min 65535 (s.log.acc.duration + 1)
          energy := .ofFn fun l => s.log.acc.energy.get l + s.loads.grants.get l }
      else s.log.acc } }

theorem countGrants_eq (s : State) : countGrants s = s.counted := by
  simp only [countGrants, inRun_iff, Accumulators.tick, bump_eq_min, State.counted]

/-- The tick in progress, finished. -/
theorem closeTick_eq {s : State} (awake : s.resetting = none) :
    closeTick s = match s.log.countDue with
      | .none => s
      | .outside => { s with log := { s.log with countDue := .none } }
      | .due => s.counted := by
  rw [← countGrants_eq]
  exact if_neg (by simp [awake])

/-! ### An expiry of the departure (R5, R6, R20) -/

/-- What an expiry leaves of the run: its end where one is in progress. -/
def State.departed (s : State) : State := if s.inRun then endRun .departed s else s

theorem departed_mode (s : State) : s.departed.run.mode = s.run.mode := by
  unfold State.departed
  split
  · rw [endRun_eq]
  · rfl

theorem departed_period (s : State) : s.departed.run.period = s.run.period := by
  unfold State.departed
  split
  · rw [endRun_eq]
  · rfl

theorem expire_of_oneShot {s : State} (mode : s.run.mode = .oneShot) : expire s = enterIdle s.departed := by
  have kept := departed_mode s
  rw [mode] at kept
  show (match s.departed.run.mode with | .oneShot => enterIdle s.departed | .repeating => reload s.departed) = _
  rw [kept]

theorem expire_of_repeating {s : State} (mode : s.run.mode = .repeating) :
    expire s = scheduleCheck { s.departed with run := { s.departed.run with
      state := .scheduled, counting := true, remaining := s.run.period * 60, checkDue := false } } := by
  have kept := departed_mode s
  rw [mode] at kept
  show (match s.departed.run.mode with | .oneShot => enterIdle s.departed | .repeating => reload s.departed) = _
  rw [kept, ← departed_period s]
  rfl

end Sys2Proof.Machine

section
open Sys2Proof Sys2Proof.Machine

/-- Settles O49: the check is taken as things stand (`tickThat_of_due`) and is that of `scheduleCheck_eq`. -/
theorem scheduleCheckComparesLead : Obligations.ScheduleCheckComparesLead := by
  intro s awake scheduled due none p returns envelope offered available tOut heating class_ checked
  have falls : checkDue s = true := by simp [checkDue, due, scheduled]
  have power : ({ s.power.returned with budget := s.power.returned.budgetFor p } : PowerBlock) =
      { envelope with budget := offered - p.wRes } := by
    rw [budgetFor_eq, returned_latest]
    rfl
  have ready : ∀ r : LoadRecord, r.available = available r := fun r => by
    rw [Bool.eq_iff_iff]
    simp [LoadRecord.available, LoadRecord.inhibited, PerPort.nonempty, available]
  have lead : ({ s with power := { envelope with budget := offered - p.wRes } } : State).checkHeating = heating := by
    rw [State.checkHeating, State.leadInputs]
    simp only [ready]
    rfl
  have check := scheduleCheck_eq scheduled none (t := { s with power := { envelope with budget := offered - p.wRes } })
    (by rw [← power]; rfl)
  rw [State.forecasted, lead] at check
  exact congrArg Host.Outcome.next ((tickThat_of_due scheduleCheck awake falls).trans check)

/-- Settles O32: beyond the horizon the suspension is the closed slot, the zero grant set and the rest of the tracker, with
the forecast of the check that follows (`suspend_beyond`). -/
theorem suspensionReturnsToScheduled : Obligations.SuspensionReturnsToScheduled := by
  intro s beyond t
  let left : State := { s.suspended with power := { s.suspended.power.returned with
    budget := s.suspended.power.returned.budgetFor s.activeProfile } }
  have t_eq : t = left.forecasted := suspend_beyond beyond
  have closing : (if s.slots.openSlot.isSome then [EventKind.slotDone] else []) ++ [.grantChanged] =
      if s.slots.openSlot.isSome then [.slotDone, .grantChanged] else [.grantChanged] := by
    split <;> rfl
  rw [t_eq]
  refine ⟨rfl, rfl, rfl, rfl, zeroed_grants s, rfl, rfl, rfl, rfl, rfl, rfl, rfl, closeSlot_slotLength s,
    closeSlot_capture s, fun kept => ?_, fun n opened r planned => ?_, fun p => ⟨?_, ?_⟩⟩
  · exact closeSlot_plan_kept kept
  · refine ⟨r.closeAt n s.slotCabin, closeSlot_record_closed opened planned, rfl,
      fun e entry => closeAt_slots_self _ entry, fun m other => closeAt_slots_other _ other⟩
  · rcases forecasted_router left with same | changed
    · rw [same]
      rfl
    · rw [changed]
      rfl
  · rw [← closing]
    rcases forecasted_router left with same | changed
    · refine ⟨0, ?_, .inl rfl⟩
      rw [same]
      exact (recorded_pendings _ s.router p).trans BitVec.or_zero.symm
    · refine ⟨s.router.masks.get p &&& EventKind.readinessChanged.bit, ?_, .inr rfl⟩
      rw [changed, recorded_pendings]
      simp [left, State.suspended, recorded, EventKind.setOf]

/-- Settles O48: the expiry is taken as things stand, after the rest of its tick (`closeTick_eq`); then the run ends
(`State.departed`) and the mode decides. -/
theorem departureExpiryEndsOrReloads : Obligations.DepartureExpiryEndsOrReloads := by
  intro s awake counting zero inRun closed u
  have falls : s.expired = true := by simp [State.expired, counting, zero]
  have isClosed : closeTick s = closed := closeTick_eq awake
  have run : closed.run = s.run := by rw [← isClosed, closeTick_run]
  have ended : closed.departed = u := by
    unfold State.departed
    simp only [inRun_iff, run]
    rfl
  have taken := tickThat_of_due expiry awake falls
  rw [expiry, isClosed] at taken
  refine ⟨fun mode => ?_, fun mode => ?_⟩
  · rw [expire_of_oneShot (by rw [run]; exact mode), ended, enterIdle_eq] at taken
    exact congrArg Host.Outcome.next taken
  · rw [expire_of_repeating (by rw [run]; exact mode), ended, run] at taken
    exact congrArg Host.Outcome.next taken

end

/-! PROOFS. The allocation of a slot with its record and flags (R48, R69, R70), the close of the slot before it, and O52. -/

namespace Sys2Proof.Machine

/-! ### The result flags (R69) -/

theorem mem_all (l : Load) : l ∈ Load.all := by cases l <;> decide

theorem resultFlags_deficit (i : AllocInputs) :
    (resultFlags i).deficit = true ↔ ∃ l, ((allocate i).get l).1 < (demands i).get l := by
  simp [resultFlags, mem_all]

theorem resultFlags_shortfall (i : AllocInputs) :
    (resultFlags i).shortfall = true ↔
      ∃ l, 0 < (demands i).get l ∧ ((allocate i).get l).1 * 2 < (demands i).get l := by
  simp [resultFlags, mem_all]

theorem resultFlags_noneGranted (i : AllocInputs) :
    (resultFlags i).noneGranted = true ↔ ∀ l, ((allocate i).get l).1 = 0 := by
  simp [resultFlags, mem_all]

theorem resultFlags_fallback (i : AllocInputs) : (resultFlags i).fallback = true ↔ i.source = .fallback := by
  simp [resultFlags]

theorem resultFlags_openLoop (i : AllocInputs) :
    (resultFlags i).openLoop = true ↔ i.openLoop = true ∨ i.tCab = none := by
  show (heatNeed i).openLoop = true ↔ _
  unfold heatNeed
  cases i.openLoop with
  | true => simp
  | false =>
    cases i.tCab with
    | none => simp
    | some t =>
      simp only [Bool.false_eq_true, reduceCtorEq, or_self, iff_false]
      repeat' split
      all_goals simp

theorem resultFlags_clamped (i : AllocInputs) :
    (resultFlags i).clamped = true ↔ i.openLoop = false ∧ ∃ cab, i.tCab = some cab ∧ cab < i.profile.tSet ∧
      20000 < (i.profile.cCab * (i.entry.trajEnd - cab).toNat * 100 + (i.entry.start - i.entry.stop) - 1)
          / (i.entry.start - i.entry.stop)
        + i.profile.ua * (cab - i.tOut).toNat / 10 := by
  show (heatNeed i).clamped = true ↔ _
  unfold heatNeed
  cases i.openLoop with
  | true => simp
  | false =>
    cases i.tCab with
    | none => simp
    | some t =>
      simp only [warmingPower_eq, lossPower, Option.some.injEq, exists_eq_left', true_and]
      by_cases warm : i.profile.tSet ≤ t
      · simp [warm]
      · rw [if_neg warm]
        simp only [not_le.mp warm, true_and]
        split
        · next above => simp [above]
        · next within => simp [within]

/-! ### The allocation of a slot (R48, R70) -/

/-- A plan record with the actual part of an entry written. -/
def PlanRecord.allocated (r : PlanRecord) (n : Nat) (e : SlotEntry) (i : AllocInputs) : PlanRecord :=
  { r with slots := r.slots.set n { e with actual := some (actualOf i) } }

theorem allocateSlot_eq {n : Nat} {e : SlotEntry} {r : PlanRecord} {s : State} {i : AllocInputs}
    (plan : s.plan.plan = some r) (entry : r.slots[n]? = some e) (inputs : s.allocInputs r e = i) :
    allocateSlot n s = { s with
      plan := { s.plan with plan := some (r.allocated n e i) }
      slots := { s.slots with openSlot := some n, reportSeen := false }
      loads := (issue (.ofFn fun l => some ((allocate i).get l)) s).loads
      router := recorded [.grantChanged] s.router } := by
  subst inputs
  simp only [allocateSlot, plan, entry, issue, issueFrom_eq]
  rfl

theorem allocated_slots_self {r : PlanRecord} {n : Nat} {e f : SlotEntry} (i : AllocInputs) (h : r.slots[n]? = some f) :
    (r.allocated n e i).slots[n]? = some { e with actual := some (actualOf i) } := by
  have within := (List.getElem?_eq_some_iff.mp h).1
  simp [PlanRecord.allocated, within]

theorem allocated_slots_other {r : PlanRecord} {n m : Nat} (e : SlotEntry) (i : AllocInputs) (h : m ≠ n) :
    (r.allocated n e i).slots[m]? = r.slots[m]? := by
  simp [PlanRecord.allocated, List.getElem?_set_ne h.symm]

theorem allocated_fields {r r' : PlanRecord} (n : Nat) (e : SlotEntry) (i : AllocInputs)
    (fields : r' = { r with slots := r'.slots }) :
    r'.allocated n e i = { r with slots := (r'.allocated n e i).slots } := by
  generalize r'.slots = slots at fields
  subst fields
  rfl

/-- The plan record once its open slot is closed. -/
def State.closedRecord (s : State) (r : PlanRecord) : PlanRecord :=
  match s.slots.openSlot with
  | none => r
  | some m => r.closeAt m s.slotCabin

theorem closeSlot_eq {s : State} {r : PlanRecord} (plan : s.plan.plan = some r) :
    closeSlot s = { s with
      plan := { s.plan with plan := some (s.closedRecord r) }
      slots := { s.slots with openSlot := none }
      router := recorded (if s.slots.openSlot.isSome then [.slotDone] else []) s.router } := by
  cases opened : s.slots.openSlot with
  | none =>
    have same : s.closedRecord r = r := by simp [State.closedRecord, opened]
    have slots : { s.slots with openSlot := none } = s.slots := by rw [← opened]
    rw [closeSlot_of_none opened, same, ← plan, slots]
    simp
  | some m =>
    have closed : s.closedRecord r = r.closeAt m s.slotCabin := by simp [State.closedRecord, opened]
    rw [closeSlot_of_some opened, raise_eq, closed, plan]
    rfl

theorem closedRecord_slots_of_ne {s : State} {r : PlanRecord} {m : Nat} (other : s.slots.openSlot ≠ some m) :
    (s.closedRecord r).slots[m]? = r.slots[m]? := by
  unfold State.closedRecord
  cases opened : s.slots.openSlot with
  | none => rfl
  | some k => exact closeAt_slots_other _ (.inl fun same => other (by rw [opened, same]))

theorem closedRecord_slots_of_open {s : State} {r : PlanRecord} {m : Nat} {f : SlotEntry}
    (opened : s.slots.openSlot = some m) (entry : r.slots[m]? = some f) :
    (s.closedRecord r).slots[m]? = some (f.close s.slotCabin) := by
  simp only [State.closedRecord, opened]
  exact closeAt_slots_self _ entry

theorem closedRecord_fields (s : State) (r : PlanRecord) :
    s.closedRecord r = { r with slots := (s.closedRecord r).slots } := by
  unfold State.closedRecord
  split <;> rfl

theorem closedRecord_length (s : State) (r : PlanRecord) : (s.closedRecord r).slots.length = r.slots.length := by
  unfold State.closedRecord
  split
  · rfl
  · exact List.length_modify ..

/-! ### A slot start (R48) -/

/-- The first entry that starts at the remaining time is the slot that starts, where it is not slot 0. -/
theorem startingSlot_of_first {s : State} {r : PlanRecord} {n : Nat} {e : SlotEntry} (plan : s.plan.plan = some r)
    (entry : r.slots[n]? = some e) (starts : e.start = s.run.remaining) (later : n ≠ 0)
    (first : ∀ m, m < n → ∀ f, r.slots[m]? = some f → f.start ≠ s.run.remaining) : s.startingSlot = some n := by
  obtain ⟨within, get⟩ := List.getElem?_eq_some_iff.mp entry
  have found : r.slots.findIdx? (fun e => e.start == s.run.remaining) = some n := by
    rw [List.findIdx?_eq_some_iff_getElem]
    refine ⟨within, by simp [get, starts], fun m before => ?_⟩
    simpa using first m before _ (List.getElem?_eq_getElem (before.trans within))
  obtain ⟨k, rfl⟩ := Nat.exists_eq_succ_of_ne_zero later
  simp only [State.startingSlot, plan, found]

/-- The state after the allocation of the slot that starts. -/
def State.slotStarted (s : State) (n : Nat) (e : SlotEntry) (r : PlanRecord) (i : AllocInputs) : State := { s with
  plan := { s.plan with plan := some ((s.closedRecord r).allocated n e i) }
  slots := { s.slots with openSlot := some n, reportSeen := false }
  loads := (issue (.ofFn fun l => some ((allocate i).get l)) s).loads
  router := recorded ((if s.slots.openSlot.isSome then [.slotDone] else []) ++ [.grantChanged]) s.router }

theorem startSlot_eq {s : State} {r : PlanRecord} {n : Nat} {e : SlotEntry} {i : AllocInputs}
    (starting : s.startingSlot = some n) (plan : s.plan.plan = some r) (entry : r.slots[n]? = some e)
    (fresh : s.slots.openSlot ≠ some n) (inputs : s.allocInputs r e = i) :
    startSlot s = forecast r.profile (s.track.tCab.getD r.profile.tAssume)
      (heatingTime ((s.slotStarted n e r i).leadInputs r.profile)) (s.slotStarted n e r i) := by
  have fields := closedRecord_fields s r
  have allocated : allocateSlot n (closeSlot s) = s.slotStarted n e r i := by
    rw [closeSlot_eq plan, allocateSlot_eq (r := s.closedRecord r) rfl ((closedRecord_slots_of_ne fresh).trans entry)
      (i := i) (by rw [← inputs, fields]; rfl)]
    simp only [recorded_recorded]
    rfl
  have profile : (s.slotStarted n e r i).runProfile = r.profile := by
    rw [runProfile_of_plan (r := (s.closedRecord r).allocated n e i) rfl, fields]
    rfl
  simp only [startSlot, starting]
  rw [allocated, profile]
  rfl

end Sys2Proof.Machine

section
open Sys2Proof Sys2Proof.Machine

/-- Settles O52: the slot that starts is taken as things stand (`tickThat_of_due`); `startSlot_eq` closes the open slot,
writes the actual part and makes the forecast, and the `resultFlags_` lemmas read the flags. -/
theorem slotStartAllocatesSlot : Obligations.SlotStartAllocatesSlot := by
  intro n e r s awake running counting plan entry starts later fresh first p tOut inputs given wanted issued available
    heating class_ kinds
  have starting := startingSlot_of_first plan entry starts later first
  have falls : slotStartDue s = true := by
    simp [slotStartDue, running, counting, starting, fresh]
  have started := startSlot_eq starting plan entry fresh (i := inputs) rfl
  have ready : ∀ r : LoadRecord, r.available = available r := fun r => by
    rw [Bool.eq_iff_iff]
    simp [LoadRecord.available, LoadRecord.inhibited, PerPort.nonempty, available]
  have lead : heatingTime ((s.slotStarted n e r inputs).leadInputs p) = heating := by
    simp only [heating, ← ready]
    rfl
  rw [lead, forecast_eq] at started
  have closedEntry := (closedRecord_slots_of_ne fresh).trans entry
  refine ⟨_, (s.closedRecord r).allocated n e inputs, actualOf inputs,
    congrArg Host.Outcome.next ((tickThat_of_due startSlot awake falls).trans started), rfl, rfl, rfl, ?_, rfl,
    ?_, ?_, allocated_slots_self inputs closedEntry, fun l => PerLoad.get_ofFn _ l, rfl, rfl, resultFlags_deficit inputs,
    resultFlags_shortfall inputs, resultFlags_noneGranted inputs, resultFlags_openLoop inputs,
    resultFlags_fallback inputs, resultFlags_clamped inputs, fun m opened f was b actual => ?_, fun m other shut => ?_,
    rfl, rfl, rfl, rfl, rfl⟩
  · by_cases same : class_ = s.track.readiness
    · simp only [kinds, if_pos same, List.append_nil]
      exact if_pos same
    · simp only [kinds, if_neg same]
      exact (if_neg same).trans (recorded_recorded _ _ s.router)
  · exact allocated_fields n e inputs (closedRecord_fields s r)
  · simp [PlanRecord.allocated, closedRecord_length]
  · have different : m ≠ n := fun same => fresh (same ▸ opened)
    rw [allocated_slots_other e inputs different, closedRecord_slots_of_open opened was, SlotEntry.close, actual]
    rfl
  · rw [allocated_slots_other e inputs other, closedRecord_slots_of_ne shut]

end

/-! PROOFS. The completion of a plan generation (R30): each of the eight steps as an equation, and O51. -/

namespace Sys2Proof.Machine

/-! ### Nothing waits from the last tick (log 4) -/

theorem takeIf_of_not {due : State → Bool} {act : State → State} {s : State} (calm : due s = false) :
    takeIf due act s = s := if_neg (by simp [calm])

theorem settle_of_settled {s : State} (settled : s.settled = true) : settle s = s := by
  simp only [State.settled, Bool.and_eq_true, Bool.not_eq_eq_eq_not, Bool.not_true] at settled
  obtain ⟨⟨⟨⟨⟨⟨⟨sensor, hold⟩, timeouts⟩, cooldown⟩, phase⟩, slot⟩, check⟩, expired⟩ := settled
  simp only [settle, takeIf_of_not sensor, takeIf_of_not hold, takeIf_of_not timeouts, takeIf_of_not cooldown,
    takeIf_of_not phase, takeIf_of_not slot, takeIf_of_not check, takeIf_of_not expired]

theorem settled_expired {s : State} (settled : s.settled = true) : s.expired = false := by
  simp only [State.settled, Bool.and_eq_true, Bool.not_eq_eq_eq_not, Bool.not_true] at settled
  exact settled.2

theorem settled_sensorTimer {s : State} (settled : s.settled = true) : s.track.sensorTimer ≠ some 0 := by
  simp only [State.settled, Bool.and_eq_true, Bool.not_eq_eq_eq_not, Bool.not_true] at settled
  obtain ⟨⟨⟨⟨⟨⟨⟨sensor, -⟩, -⟩, -⟩, -⟩, -⟩, -⟩, -⟩ := settled
  simpa [sensorExpiryDue] using sensor

theorem exec_planCompletion_of_planning {s : State} {c : Capture} (awake : s.resetting = none)
    (planning : s.run.state = .planning) (capture : s.plan.capture = some c) (settled : s.settled = true) :
    exec .planCompletion s = .next (serveReleased s (completePlan c s)) := by
  have arm : exec .planCompletion s = execPlanCompletion s := rfl
  rw [arm, execPlanCompletion, if_neg (by simp [awake])]
  simp only [planning, settled_expired settled, Bool.false_eq_true, if_false, settle_of_settled settled, completion,
    capture]

/-! ### The steps (R30) -/

/-- Step 3: tracking restarts, and a sensor timer that has stopped declares sensor loss (R126, R127). -/
theorem restartTracking_eq (heating : Heating) {s : State} (running : s.track.sensorTimer ≠ some 0) :
    restartTracking heating s = { s with
      track := { s.track with
        sensorLost := s.track.sensorTimer.isNone
        openLoop := s.track.sensorTimer.isNone
        tracker := if s.track.doorOpen || s.track.sensorTimer.isNone then .held else .acq1
        holdDoor := s.track.doorOpen
        holdSensor := s.track.sensorTimer.isNone
        acquisition := 0
        track := false
        tracks := false
        lossCount := 0
        heating := heating }
      router := recorded (if s.track.sensorTimer.isNone then [.sensorLost] else []) s.router } := by
  cases timer : s.track.sensorTimer with
  | none => simp [restartTracking, timer, timerRuns, declareSensorLoss, raise_eq]
  | some n =>
    have left : n ≠ 0 := fun zero => running (zero ▸ timer)
    simp [restartTracking, timer, timerRuns, left]

/-- Step 4: the re-examination with no slot open; a shed where the budget falls below the grants (R106, R108, R109). -/
theorem reexamine_of_closed (p : Profile) {s : State} {power : PowerBlock} (closed : s.slots.openSlot = none)
    (budget : { s.power.returned with budget := s.power.returned.budgetFor p } = power) :
    reexamine p s = { s with
      power := power
      loads := if power.budget < s.loads.grants.sum then (shed p { s with power := power }).loads else s.loads
      router := recorded (if power.budget < s.loads.grants.sum then [.grantChanged, .shed] else []) s.router
      log := { s.log with acc := { s.log.acc with
        sheds := if power.budget < s.loads.grants.sum then s.log.acc.sheds + 1 else s.log.acc.sheds } } } := by
  subst budget
  rw [reexamine_eq]
  by_cases below : s.power.returned.budgetFor p < s.loads.grants.sum
  · simp only [below, if_true]
    rw [computeBudget_sheds p _ below, shed, countShed_of_closed (by exact closed), raise_eq, issue, issueFrom_eq]
    simp
  · simp only [below, if_false, recorded_nil]
    exact computeBudget_keeps p _ (not_lt.mp below)

/-- Step 6. -/
theorem allocateCurrent_of_some {r : PlanRecord} {s : State} {n : Nat}
    (current : r.currentSlot s.run.remaining = some n) : allocateCurrent r s = allocateSlot n s := by
  rw [allocateCurrent, current]

/-- Step 8. -/
theorem raiseDone_eq (origin : Option Origin) (s : State) :
    raiseDone origin s = { s with
      router := recorded ([.planDone] ++ if origin = some .start then [.runStarted] else []) s.router } := by
  unfold raiseDone
  dsimp only
  split
  · rw [raise_eq, raise_eq, recorded_recorded]
  · rw [raise_eq, List.append_nil]

/-- GRANT_CHANGED recorded before a shed and at the allocation after it is recorded once. -/
theorem setOf_shed_allocation (sheds : Prop) [Decidable sheds] (ks ls : List EventKind) :
    EventKind.setOf (ks ++ ((if sheds then [.grantChanged, .shed] else []) ++ ([.grantChanged] ++ ls))) =
      EventKind.setOf (ks ++ ((if sheds then [.shed] else []) ++ ([.grantChanged] ++ ls))) := by
  have once : EventKind.setOf ((if sheds then [.grantChanged, .shed] else []) ++ [.grantChanged]) =
      EventKind.setOf ((if sheds then [.shed] else []) ++ [.grantChanged]) := by
    by_cases is : sheds
    · simp only [is, if_true]
      decide
    · simp only [is, if_false]
  rw [EventKind.setOf_append, ← List.append_assoc, EventKind.setOf_append, once, ← EventKind.setOf_append,
    List.append_assoc, ← EventKind.setOf_append]

/-! ### The eight steps together -/

/-- The run heating time that a completion records. -/
def Capture.heating (c : Capture) : Heating :=
  match heatingTime c.leadInputs with
  | none => .unreachable
  | some n => .seconds n

/-- The state after steps 1 to 3: the plan installed, the windscreen energy loaded, tracking restarted. -/
def Capture.tracked (c : Capture) (s : State) : State := { s with
  plan := { s.plan with plan := some c.build, capture := none }
  slots := { s.slots with screenEnergy := c.profile.scrEnergy * 1000, openSlot := none }
  track := { s.track with
    sensorLost := s.track.sensorTimer.isNone
    openLoop := s.track.sensorTimer.isNone
    tracker := if s.track.doorOpen || s.track.sensorTimer.isNone then .held else .acq1
    holdDoor := s.track.doorOpen
    holdSensor := s.track.sensorTimer.isNone
    acquisition := 0
    track := false
    tracks := false
    lossCount := 0
    heating := c.heating }
  router := recorded (if s.track.sensorTimer.isNone then [.sensorLost] else []) s.router
  log := { s.log with acc := { s.log.acc with planCompleted := true } } }

theorem tracked_eq {c : Capture} {s : State} (running : s.track.sensorTimer ≠ some 0) :
    restartTracking c.heating (loadScreenEnergy c.profile (installPlan c.build s)) = c.tracked s :=
  restartTracking_eq c.heating (by exact running)

/-- The state after steps 4 and 5: the envelope re-examined, with the shed it may cause, and the run state set. -/
def Capture.entered (c : Capture) (power : PowerBlock) (s : State) : State := { c.tracked s with
  run := { s.run with
    state := if c.profile.settle < s.run.remaining then .conditioning else .maintain, origin := none }
  power := power
  loads := if power.budget < s.loads.grants.sum then (shed c.profile { s with power := power }).loads else s.loads
  router := recorded (if power.budget < s.loads.grants.sum then [.grantChanged, .shed] else []) (c.tracked s).router
  log := { s.log with acc := { s.log.acc with
    sheds := if power.budget < s.loads.grants.sum then s.log.acc.sheds + 1 else s.log.acc.sheds
    planCompleted := true } } }

theorem entered_eq {c : Capture} {s : State} {power : PowerBlock}
    (budget : { s.power.returned with budget := s.power.returned.budgetFor c.profile } = power) :
    enterRun c.profile (reexamine c.profile (c.tracked s)) = c.entered power s := by
  have shedLoads : (shed c.profile { c.tracked s with power := power }).loads =
      (shed c.profile { s with power := power }).loads := by
    rw [shed_loads, shed_loads]
    rfl
  rw [reexamine_of_closed (s := c.tracked s) c.profile rfl budget, shedLoads]
  rfl

/-- A completion is its steps 6 to 8 on what the first five leave. -/
theorem completePlan_eq {c : Capture} {s : State} {n : Nat} {e : SlotEntry} {power : PowerBlock} {i : AllocInputs}
    (running : s.track.sensorTimer ≠ some 0)
    (budget : { s.power.returned with budget := s.power.returned.budgetFor c.profile } = power)
    (current : c.build.currentSlot s.run.remaining = some n) (entry : c.build.slots[n]? = some e)
    (inputs : (c.entered power s).allocInputs c.build e = i) :
    completePlan c s = releaseHeld (raiseDone s.run.origin
      (forecast c.profile c.cabin (heatingTime c.leadInputs) { c.entered power s with
        plan := { s.plan with plan := some (c.build.allocated n e i), capture := none }
        slots := { s.slots with screenEnergy := c.profile.scrEnergy * 1000, openSlot := some n, reportSeen := false }
        loads := (issue (.ofFn fun l => some ((allocate i).get l)) (c.entered power s)).loads
        router := recorded [.grantChanged] (c.entered power s).router })) := by
  have steps : completePlan c s = releaseHeld (raiseDone s.run.origin
      (forecast c.profile c.cabin (heatingTime c.leadInputs) (allocateCurrent c.build (enterRun c.profile
        (reexamine c.profile (restartTracking c.heating (loadScreenEnergy c.profile (installPlan c.build s)))))))) := rfl
  rw [steps, tracked_eq running, entered_eq budget, allocateCurrent_of_some (by exact current),
    allocateSlot_eq (r := c.build) rfl entry inputs]
  rfl

end Sys2Proof.Machine

section
open Sys2Proof Sys2Proof.Machine

/-- Settles O51: with nothing left from the last tick (`settle_of_settled`) the completion is its eight steps
(`completePlan_eq`), each by its equation. -/
theorem planCompletionTakesEightSteps : Obligations.PlanCompletionTakesEightSteps := by
  intro c n e s awake planning capture settled current entry p returns envelope power sheds loads lost inputs given
    heating class_ kinds
  refine (exec_planCompletion_of_planning awake planning capture settled).trans
    (congrArg (fun t => Host.Outcome.next (serveReleased s t)) ?_)
  have packed : (c.tPack.isSome && c.profile.cPack != 0) = (c.tPack.isSome && decide (p.cPack ≠ 0)) := by
    rw [Bool.eq_iff_iff]
    simp [p]
  have reads : (c.entered power s).allocInputs c.build e = inputs :=
    congrArg (fun b => { inputs with packPlanned := b }) packed
  have routers : recorded ([.planDone] ++ if s.run.origin = some .start then [.runStarted] else [])
      (if class_ = s.track.readiness then recorded [.grantChanged] (c.entered power s).router
        else recorded [.readinessChanged] (recorded [.grantChanged] (c.entered power s).router)) =
      recorded kinds s.router := by
    have change : (if class_ = s.track.readiness then recorded [.grantChanged] (c.entered power s).router
        else recorded [.readinessChanged] (recorded [.grantChanged] (c.entered power s).router)) =
        recorded (if class_ = s.track.readiness then [] else [.readinessChanged])
          (recorded [.grantChanged] (c.entered power s).router) := by
      split
      · exact (recorded_nil _).symm
      · rfl
    have once := setOf_shed_allocation sheds (if lost then [.sensorLost] else [])
      ((if class_ = s.track.readiness then [] else [.readinessChanged]) ++ ([.planDone] ++
        if s.run.origin = some .start then [.runStarted] else []))
    rw [change]
    simp only [Capture.entered, Capture.tracked, recorded_recorded, kinds]
    simp only [recorded, List.append_assoc] at once ⊢
    rw [← once]
  rw [completePlan_eq (settled_sensorTimer settled) (power := power) rfl current entry reads, forecast_eq,
    raiseDone_eq]
  rw [← routers]
  rfl

end

/-! PROOFS. The transactions on a port's bus (R163 to R167, R170 to R173): what a read clocks, how a transaction ends, and
O42, O43, O44. -/

namespace Sys2Proof.Machine

/-! ### What a read clocks, and the address of a port (R163, R165) -/

theorem clocked_eq (frame : List Byte) (start count : Nat) :
    clocked frame start count = (frame.drop start ++ List.replicate count 0xFF).take count := by
  refine List.ext_getElem (by simp [clocked]) fun i within _ => ?_
  have inside : i < count := by simpa [clocked] using within
  simp only [clocked, List.getElem_map, List.getElem_range, List.getElem_take, List.getElem_append, List.length_drop,
    List.getElem_drop, List.getElem_replicate]
  split
  · next given => exact (List.getElem_eq_getD _).symm
  · next beyond => exact List.getD_eq_default _ _ (by omega)

/-- The port's number within the base address (R163). -/
theorem portAddress_toNat (straps : BitVec 2) (p : Port) :
    (portAddress straps p).toNat = 0x30 + 4 * straps.toNat + p.index := by
  have bound : p.index ≤ 2 := by cases p <;> decide
  have := straps.isLt
  simp only [portAddress, BitVec.toNat_ofNat]
  omega

theorem acknowledges_iff {s : State} (awake : s.resetting = none) (p : Port) (address : BitVec 7) :
    s.acknowledges p address = true ↔ address.toNat = 0x30 + 4 * s.port.straps.toNat + p.index := by
  rw [← portAddress_toNat, ← BitVec.toNat_eq]
  simp [State.acknowledges, awake]

theorem acknowledges_resetting {s : State} (asleep : s.resetting ≠ none) (p : Port) (address : BitVec 7) :
    s.acknowledges p address = false := by
  cases resetting : s.resetting with
  | none => exact absurd resetting asleep
  | some c => simp [State.acknowledges, resetting]

/-! ### The end of a transaction (R164, R173) -/

/-- A read is in progress at a port: it returns bytes, or a reset has released it. -/
abbrev State.Reads (s : State) (p : Port) : Prop :=
  (s.bus.get p).transaction = .released ∨ ∃ frame n, (s.bus.get p).transaction = .returning frame n

/-- A read at a port is stretched. -/
abbrev State.Stretches (s : State) (p : Port) : Prop :=
  ∃ count stops, (s.bus.get p).transaction = .stretched count stops

theorem setBus_same (p : Port) (s : State) : setBus p (s.bus.get p) s = s := by
  simp [setBus]

theorem setBus_of_idle {p : Port} {s : State} (idle : (s.bus.get p).transaction = .idle) :
    setBus p { s.bus.get p with transaction := .idle } s = s := by
  rw [← idle]
  exact setBus_same p s

theorem endRead_transaction (p : Port) (s : State) : ((endRead p s).bus.get p).transaction = .idle := by
  unfold endRead
  dsimp only
  split <;> simp [setBus, install, setPort]

theorem endRead_straps (p : Port) (s : State) : (endRead p s).port.straps = s.port.straps := by
  unfold endRead
  dsimp only
  split <;> rfl

theorem deliver_bus (p : Port) (f : Frame) (s : State) : (deliver p f s).bus = s.bus := by
  unfold deliver
  dsimp only
  split
  · split <;> rfl
  all_goals rfl

theorem deliver_straps (p : Port) (f : Frame) (s : State) : (deliver p f s).port.straps = s.port.straps := by
  unfold deliver
  dsimp only
  split
  · split <;> rfl
  all_goals rfl

theorem endWrite_transaction (p : Port) (f : Frame) (s : State) :
    ((endWrite p f s).bus.get p).transaction = .idle := by
  unfold endWrite
  dsimp only
  split
  · simp [setBus]
  · rw [deliver_bus]
    simp [setBus]

theorem endWrite_straps (p : Port) (f : Frame) (s : State) : (endWrite p f s).port.straps = s.port.straps := by
  unfold endWrite
  dsimp only
  split
  · rfl
  · exact deliver_straps _ _ _

theorem freeBus_of_idle {p : Port} {s : State} (idle : (s.bus.get p).transaction = .idle) : freeBus p s = s := by
  simp only [freeBus, idle]

theorem freeBus_of_stretched {p : Port} {s : State} (stretched : s.Stretches p) : freeBus p s = s := by
  obtain ⟨count, stops, transaction⟩ := stretched
  simp only [freeBus, transaction]

theorem freeBus_of_read {p : Port} {s : State} (reads : s.Reads p) : freeBus p s = endRead p s := by
  rcases reads with transaction | ⟨frame, n, transaction⟩ <;> simp only [freeBus, transaction]

theorem freeBus_of_write {p : Port} {s : State} {scratch : Frame} {marked : Bool}
    (transaction : (s.bus.get p).transaction = .writing scratch marked) : freeBus p s = endWrite p scratch s := by
  simp only [freeBus, transaction]

/-- A transaction that begins finds the bus free, unless a read is stretched. -/
theorem freeBus_transaction {p : Port} {s : State} (free : ¬s.Stretches p) :
    ((freeBus p s).bus.get p).transaction = .idle := by
  cases transaction : (s.bus.get p).transaction with
  | idle => rw [freeBus_of_idle transaction, transaction]
  | stretched count stops => exact absurd ⟨count, stops, transaction⟩ free
  | returning frame n => rw [freeBus_of_read (.inr ⟨frame, n, transaction⟩), endRead_transaction]
  | released => rw [freeBus_of_read (.inl transaction), endRead_transaction]
  | writing scratch marked => rw [freeBus_of_write transaction, endWrite_transaction]

theorem freeBus_straps (p : Port) (s : State) : (freeBus p s).port.straps = s.port.straps := by
  unfold freeBus
  split
  · rfl
  · rfl
  · exact endRead_straps p s
  · exact endRead_straps p s
  · exact endWrite_straps p _ s

/-! ### The commands of a port's bus -/

/-- While a reset is in progress no port acknowledges, and no transaction ends (R191). -/
theorem exec_finishedWrite_asleep {s : State} (asleep : s.resetting ≠ none) (p : Port) (address : BitVec 7)
    (data : WriteData) : exec (.finishedWrite p address data) s = .next s := by
  have silent : ¬s.acknowledges p address = true := by simp [acknowledges_resetting asleep]
  have passes : passOver p s = s := if_pos (by simpa [Option.isSome_iff_ne_none] using asleep)
  exact congrArg Host.Outcome.next ((if_neg silent).trans passes)

theorem exec_responseRead_asleep {s : State} (asleep : s.resetting ≠ none) (p : Port) (address : BitVec 7) (count : Nat)
    (stops : Bool) : exec (.responseRead p address count stops) s = .next s := by
  have silent : ¬s.acknowledges p address = true := by simp [acknowledges_resetting asleep]
  have passes : passOver p s = s := if_pos (by simpa [Option.isSome_iff_ne_none] using asleep)
  exact congrArg Host.Outcome.next ((if_neg silent).trans passes)

theorem writeBytes_of_read {p : Port} {s : State} (reads : s.Reads p) (data : List Byte) (ends : WriteEnd) :
    writeBytes p data ends s = writeBytes p data ends (freeBus p s) := by
  have idle : ((freeBus p s).bus.get p).transaction = .idle := by rw [freeBus_of_read reads, endRead_transaction]
  rcases reads with transaction | ⟨frame, n, transaction⟩ <;> simp only [writeBytes, transaction, idle]

/-- A write that is not the port's own only ends what is in progress. -/
theorem exec_finishedWrite_other {p : Port} {address : BitVec 7} {s : State} (data : WriteData)
    (awake : s.resetting = none) (other : address.toNat ≠ 0x30 + 4 * s.port.straps.toNat + p.index) :
    exec (.finishedWrite p address data) s = .next (freeBus p s) := by
  have silent : ¬s.acknowledges p address = true := mt (acknowledges_iff awake p address).mp other
  have passes : passOver p s = freeBus p s := if_neg (by simp [awake])
  exact congrArg Host.Outcome.next ((if_neg silent).trans passes)

theorem exec_finishedWrite_own {p : Port} {address : BitVec 7} {s : State} (data : WriteData)
    (awake : s.resetting = none) (own : address.toNat = 0x30 + 4 * s.port.straps.toNat + p.index) :
    exec (.finishedWrite p address data) s = .next (writeBytes p data.bytes data.ends s) :=
  congrArg Host.Outcome.next (if_pos ((acknowledges_iff awake p address).mpr own))

theorem exec_responseRead_other {p : Port} {address : BitVec 7} {count : Nat} {stops : Bool} {s : State}
    (awake : s.resetting = none) (other : address.toNat ≠ 0x30 + 4 * s.port.straps.toNat + p.index) :
    exec (.responseRead p address count stops) s = .next (freeBus p s) := by
  have silent : ¬s.acknowledges p address = true := mt (acknowledges_iff awake p address).mp other
  have passes : passOver p s = freeBus p s := if_neg (by simp [awake])
  exact congrArg Host.Outcome.next ((if_neg silent).trans passes)

theorem exec_responseRead_own {p : Port} {address : BitVec 7} {count : Nat} {stops : Bool} {s : State}
    (awake : s.resetting = none) (own : address.toNat = 0x30 + 4 * s.port.straps.toNat + p.index)
    (free : ¬s.Stretches p) :
    exec (.responseRead p address count stops) s = .next (beginRead p count stops (freeBus p s)) := by
  refine congrArg Host.Outcome.next ((if_pos ((acknowledges_iff awake p address).mpr own)).trans ?_)
  cases transaction : (s.bus.get p).transaction with
  | idle => rw [freeBus_of_idle transaction]
  | stretched n e => exact absurd ⟨n, e, transaction⟩ free
  | returning | released | writing => rfl

/-- A read that begins is the same after what was in progress has ended. -/
theorem exec_responseRead_freeBus {p : Port} {address : BitVec 7} {count : Nat} {stops : Bool} {s : State}
    (awake : s.resetting = none) (own : address.toNat = 0x30 + 4 * s.port.straps.toNat + p.index)
    (free : ¬s.Stretches p) :
    exec (.responseRead p address count stops) s = exec (.responseRead p address count stops) (freeBus p s) := by
  have idle := freeBus_transaction free
  have free' : ¬(freeBus p s).Stretches p := by simp [State.Stretches, idle]
  rw [exec_responseRead_own awake own free, exec_responseRead_own ((freeBus_resetting p s).trans awake)
    (by rw [freeBus_straps]; exact own) free', freeBus_of_idle idle]

theorem clockMore_zero (p : Port) (s : State) : clockMore p 0 s = s := by
  have none : ∀ frame start, clocked frame start 0 = [] := fun _ _ => rfl
  unfold clockMore
  dsimp only
  split
  · rw [none, List.append_nil]
    exact setBus_same p s
  · rw [none, List.append_nil]
    exact setBus_same p s
  all_goals rfl

/-! ### The stop of a read (R165, R173, R182) -/

/-- The bus after a read that has clocked its rest. -/
def State.readStopped (s : State) (p : Port) (rest : List Byte) : State :=
  setBus p ⟨.idle, (s.bus.get p).data ++ rest⟩ s

theorem clockMore_returning {p : Port} {s : State} {frame : List Byte} {sent : Nat}
    (returning : (s.bus.get p).transaction = .returning frame sent) (more : Nat) :
    clockMore p more s =
      setBus p ⟨.returning frame sent, (s.bus.get p).data ++ clocked frame sent more⟩ s := by
  simp only [clockMore, returning]

theorem setBus_setBus (p : Port) (b c : Bus) (s : State) : setBus p b (setBus p c s) = setBus p b s := by
  simp [setBus]

theorem setBus_get (p : Port) (b : Bus) (s : State) : (setBus p b s).bus.get p = b := by simp [setBus]

theorem setBus_rx (p : Port) (b : Bus) (s : State) :
    ((setBus p b s).port.ports.get p).rx = (s.port.ports.get p).rx := rfl

theorem endRead_of_waiting {p : Port} {s : State} {frame : List Byte} {sent : Nat} {f : Frame} {r : List Byte}
    (returning : (s.bus.get p).transaction = .returning frame sent)
    (waits : (s.port.ports.get p).rx = .inService f (some r)) (more : Nat) :
    endRead p (clockMore p more s) = install p r (s.readStopped p (clocked frame sent more)) := by
  simp only [clockMore_returning returning, endRead, setBus_setBus, setBus_get, setBus_rx, waits, State.readStopped]

theorem endRead_of_none {p : Port} {s : State} {frame : List Byte} {sent : Nat}
    (returning : (s.bus.get p).transaction = .returning frame sent)
    (none : ∀ f r, (s.port.ports.get p).rx ≠ .inService f (some r)) (more : Nat) :
    endRead p (clockMore p more s) = s.readStopped p (clocked frame sent more) := by
  simp only [clockMore_returning returning, endRead, setBus_setBus, setBus_get, setBus_rx, State.readStopped]
  rcases rx : (s.port.ports.get p).rx with _ | _ | ⟨f, _ | r⟩
  · rfl
  · rfl
  · rfl
  · exact absurd rx (none f r)

theorem endRead_released {p : Port} {s : State} (released : (s.bus.get p).transaction = .released) (more : Nat) :
    endRead p (clockMore p more s) = s.readStopped p (clocked [] 0 more) := by
  have clocks : clockMore p more s = setBus p ⟨.released, (s.bus.get p).data ++ clocked [] 0 more⟩ s := by
    simp only [clockMore, released]
  simp only [clocks, endRead, setBus_setBus, setBus_get, State.readStopped]

theorem exec_deferredInstallation_reads {p : Port} {s : State} (reads : s.Reads p) (more : Nat) :
    exec (.deferredInstallation p more) s = .next (endRead p (clockMore p more s)) := by
  refine congrArg Host.Outcome.next ?_
  rcases reads with transaction | ⟨frame, n, transaction⟩ <;> rw [transaction]

theorem exec_deferredInstallation_zero {p : Port} {s : State} (reads : s.Reads p) :
    exec (.deferredInstallation p 0) s = .next (freeBus p s) := by
  rw [exec_deferredInstallation_reads reads, clockMore_zero, freeBus_of_read reads]

/-! ### The end of a write (R164, R166, R167) -/

theorem heldCode_iff (c : Byte) : heldCode c = true ↔ c = 0x06 ∨ c = 0x60 ∨ c = 0x61 ∨ c = 0x62 := by
  simp [heldCode, or_assoc]

theorem endWrite_nil {p : Port} {scratch : Frame} (none : scratch.bytes = []) (s : State) :
    endWrite p scratch s = setBus p { s.bus.get p with transaction := .idle } s := if_pos none

theorem endWrite_of_empty {p : Port} {scratch : Frame} {s : State} (some : scratch.bytes ≠ [])
    (empty : (s.port.ports.get p).rx = .empty) :
    endWrite p scratch s = { s with
      bus := s.bus.set p { s.bus.get p with transaction := .idle }
      port := { s.port with ports := s.port.ports.set p { s.port.ports.get p with
        rx := .pending scratch, response := [0x01, scratch.code, 0] } }
      run := { s.run with
        held :=
          if s.run.state = .planning ∧
              (scratch.code = 0x06 ∨ scratch.code = 0x60 ∨ scratch.code = 0x61 ∨ scratch.code = 0x62) then
            s.run.held.set p true
          else s.run.held } } := by
  refine (if_neg some).trans ?_
  have rx : ((setBus p { s.bus.get p with transaction := .idle } s).port.ports.get p).rx = .empty := empty
  simp only [deliver, rx, heldCode_iff]
  by_cases planning : s.run.state = .planning ∧
      (scratch.code = 0x06 ∨ scratch.code = 0x60 ∨ scratch.code = 0x61 ∨ scratch.code = 0x62)
  · rw [if_pos planning]
    exact if_pos planning
  · rw [if_neg planning]
    exact if_neg planning

theorem endWrite_of_busy {p : Port} {scratch : Frame} {s : State} (some : scratch.bytes ≠ [])
    (busy : (s.port.ports.get p).rx ≠ .empty) :
    endWrite p scratch s = { s with
      bus := s.bus.set p { s.bus.get p with transaction := .idle }
      port := { s.port with ports := s.port.ports.set p { s.port.ports.get p with overflow := true } }
      router := { s.router with
        pendings :=
          s.router.pendings.set p (s.router.pendings.get p ||| (s.router.masks.get p &&& 0x2000#16)) } } := by
  refine (if_neg some).trans ?_
  have same : (setBus p { s.bus.get p with transaction := .idle } s).port.ports.get p = s.port.ports.get p := rfl
  unfold deliver
  dsimp only
  rw [same]
  cases rx : (s.port.ports.get p).rx with
  | empty => exact absurd rx busy
  | pending | inService => rfl

/-! ### A write in progress or beginning (R164) -/

/-- The bus is free, or a write is in progress that has filled the scratch frame given. -/
abbrev State.Writes (s : State) (p : Port) (before : Frame) : Prop :=
  (s.bus.get p).transaction = .idle ∧ before = ⟨[], false⟩ ∨
    ∃ marked, (s.bus.get p).transaction = .writing before marked

theorem writeBytes_of_write {p : Port} {before : Frame} {s : State} (writes : s.Writes p before) (data : List Byte)
    (ends : WriteEnd) : writeBytes p data ends s = proceedWrite p (before.extend data) ends s := by
  rcases writes with ⟨idle, rfl⟩ | ⟨marked, writing⟩
  · simp only [writeBytes, idle, frameOf]
  · simp only [writeBytes, writing]

theorem freeBus_of_writes {p : Port} {before : Frame} {s : State} (writes : s.Writes p before) :
    freeBus p s = endWrite p before s := by
  rcases writes with ⟨idle, rfl⟩ | ⟨marked, writing⟩
  · rw [freeBus_of_idle idle, endWrite_nil rfl, setBus_of_idle idle]
  · exact freeBus_of_write writing

theorem extend_bytes_eq_nil {f : Frame} {data : List Byte} : (f.extend data).bytes = [] ↔ f.bytes ++ data = [] := by
  simp [Frame.extend]

theorem extend_code (f : Frame) (data : List Byte) : (f.extend data).code = (f.bytes ++ data).headD 0 := by
  rw [Frame.code, Frame.extend]
  cases f.bytes ++ data <;> rfl

end Sys2Proof.Machine

section
open Sys2Proof Sys2Proof.Machine

/-- Settles O42: a write that begins finds the bus freed (`exec_deferredInstallation_zero`); the port's own bytes proceed
in the scratch frame (`writeBytes_of_write`), and what ends is delivered (`endWrite_of_empty`, `endWrite_of_busy`). -/
theorem finishedWriteReachesPort : Obligations.FinishedWriteReachesPort := by
  intro p address data ends before s sent index own transaction bytes scratch code port onBus
  have number : index = p.index := by cases p <;> rfl
  have own_iff : own ↔ address.toNat = 0x30 + 4 * s.port.straps.toNat + p.index := by rw [← number]
  refine ⟨fun still => ?_, fun awake reads t stopped => ?_, fun awake writes => ?_⟩
  · by_cases awake : s.resetting = none
    · have stretched : s.Stretches p := still.resolve_left (not_not.mpr awake)
      by_cases isOwn : own
      · refine (exec_finishedWrite_own _ awake (own_iff.mp isOwn)).trans ?_
        obtain ⟨count, stops, is⟩ := stretched
        simp only [writeBytes, is]
      · refine (exec_finishedWrite_other _ awake (mt own_iff.mpr isOwn)).trans ?_
        rw [freeBus_of_stretched stretched]
    · exact exec_finishedWrite_asleep awake p address _
  · have freed : freeBus p s = t := Host.Outcome.next.inj ((exec_deferredInstallation_zero reads).symm.trans stopped)
    subst freed
    refine ⟨fun isOwn => ?_, fun other => exec_finishedWrite_other _ awake (mt own_iff.mpr other)⟩
    refine (exec_finishedWrite_own _ awake (own_iff.mp isOwn)).trans ?_
    rw [exec_finishedWrite_own _ ((freeBus_resetting p s).trans awake) (by rw [freeBus_straps]; exact own_iff.mp isOwn)]
    exact congrArg _ (writeBytes_of_read reads data ends)
  · have proceeds : own → sent = .next (proceedWrite p scratch ends s) := fun isOwn => by
      have filled : scratch = before.extend data := by simp only [scratch, bytes, if_pos isOwn, Frame.extend]
      refine (exec_finishedWrite_own _ awake (own_iff.mp isOwn)).trans ?_
      rw [writeBytes_of_write writes, filled]
    refine ⟨fun isOwn goesOn => by rw [proceeds isOwn, goesOn]; rfl, fun isOwn within => by
      rw [proceeds isOwn, within]; rfl, fun finished => ?_⟩
    have ended : sent = .next (endWrite p scratch s) := by
      by_cases isOwn : own
      · rw [proceeds isOwn, finished.resolve_left (not_not.mpr isOwn)]
        rfl
      · refine (exec_finishedWrite_other _ awake (mt own_iff.mpr isOwn)).trans ?_
        rw [freeBus_of_writes writes]
        simp only [scratch, if_neg isOwn]
    have nil_iff : scratch.bytes = [] ↔ bytes = [] := by
      by_cases isOwn : own
      · simp only [scratch, bytes, if_pos isOwn]
        exact extend_bytes_eq_nil
      · simp only [scratch, bytes, if_neg isOwn]
    have code_eq : scratch.code = code := by
      by_cases isOwn : own
      · simp only [scratch, code, bytes, if_pos isOwn]
        exact extend_code before data
      · simp only [scratch, code, bytes, if_neg isOwn]
        rfl
    refine ⟨fun none => ?_, fun some empty => ?_, fun some busy => ?_⟩
    · rw [ended, endWrite_nil (nil_iff.mpr none)]
      rfl
    · rw [ended, endWrite_of_empty (mt nil_iff.mp some) empty, code_eq]
    · rw [ended, endWrite_of_busy (mt nil_iff.mp some) busy]

/-- Settles O43: a read that begins finds the bus freed (`exec_responseRead_freeBus`), and returns the response or is
stretched by the port's mode. -/
theorem responseReadFollowsMode : Obligations.ResponseReadFollowsMode := by
  intro p address count stops s read index own transaction port data
  have number : index = p.index := by cases p <;> rfl
  have own_iff : own ↔ address.toNat = 0x30 + 4 * s.port.straps.toNat + p.index := by rw [← number]
  have clocks : data = clocked port.response 0 count := (clocked_eq port.response 0 count).symm
  refine ⟨fun still => ?_, fun awake idle => ⟨fun other => ?_, fun isOwn ready => ?_, fun isOwn hold busy => ?_⟩,
    fun awake reads t stopped => ⟨fun isOwn => ?_, fun other => ?_⟩,
    fun awake scratch marked writing elsewhere notOwn t ended => ⟨fun isOwn => ?_, fun other => ?_⟩⟩
  · by_cases awake : s.resetting = none
    · have stretched : s.Stretches p := still.resolve_left (not_not.mpr awake)
      by_cases isOwn : own
      · refine congrArg Host.Outcome.next ((if_pos ((acknowledges_iff awake p address).mpr (own_iff.mp isOwn))).trans ?_)
        obtain ⟨n, e, is⟩ := stretched
        rw [is]
      · refine (exec_responseRead_other awake (mt own_iff.mpr isOwn)).trans ?_
        rw [freeBus_of_stretched stretched]
    · exact exec_responseRead_asleep awake p address count stops
  · refine (exec_responseRead_other awake (mt own_iff.mpr other)).trans ?_
    rw [freeBus_of_idle idle]
  · have free : ¬s.Stretches p := fun ⟨_, _, stretched⟩ => nomatch idle.symm.trans stretched
    refine (exec_responseRead_own awake (own_iff.mp isOwn) free).trans ?_
    have returns : ¬(port.mode = .hold ∧ port.rx ≠ .empty) := by
      rintro ⟨hold, busy⟩
      rcases ready with prepared | empty
      · exact nomatch hold.symm.trans prepared
      · exact busy empty
    rw [freeBus_of_idle idle, clocks]
    exact congrArg Host.Outcome.next (if_neg returns)
  · have free : ¬s.Stretches p := fun ⟨_, _, stretched⟩ => nomatch idle.symm.trans stretched
    refine (exec_responseRead_own awake (own_iff.mp isOwn) free).trans ?_
    rw [freeBus_of_idle idle]
    exact congrArg Host.Outcome.next (if_pos ⟨hold, busy⟩)
  · have freed : freeBus p s = t := Host.Outcome.next.inj ((exec_deferredInstallation_zero reads).symm.trans stopped)
    subst freed
    refine exec_responseRead_freeBus awake (own_iff.mp isOwn) ?_
    rintro ⟨n, e, stretched⟩
    rcases reads with released | ⟨frame, m, returning⟩
    · exact nomatch released.symm.trans stretched
    · exact nomatch returning.symm.trans stretched
  · have freed : freeBus p s = t := Host.Outcome.next.inj ((exec_deferredInstallation_zero reads).symm.trans stopped)
    exact freed ▸ exec_responseRead_other awake (mt own_iff.mpr other)
  · have freed : freeBus p s = t := Host.Outcome.next.inj
      ((exec_finishedWrite_other _ awake (by rw [← number]; exact notOwn)).symm.trans ended)
    subst freed
    exact exec_responseRead_freeBus awake (own_iff.mp isOwn) fun ⟨_, _, stretched⟩ =>
      nomatch writing.symm.trans stretched
  · have freed : freeBus p s = t := Host.Outcome.next.inj
      ((exec_finishedWrite_other _ awake (by rw [← number]; exact notOwn)).symm.trans ended)
    exact freed ▸ exec_responseRead_other awake (mt own_iff.mpr other)

/-- Settles O44: the limit returns the NOT_READY frame; the stop of a read adds the rest (`clocked_eq`) and installs
what waits for it (`endRead_of_waiting`, `endRead_of_none`, `endRead_released`). -/
theorem readsEndAtLimitAndStop : Obligations.ReadsEndAtLimitAndStop := by
  intro p more s bus port stopped
  have stops : ∀ frame sent, s.readStopped p (clocked frame sent more) = stopped (frame.drop sent) := by
    intro frame sent
    rw [clocked_eq]
    rfl
  refine ⟨?_, fun free => ?_, fun frame sent returning f r waits => ?_,
    fun frame sent returning none => ?_, fun released => ?_, fun other => ?_⟩
  · intro count stops stretched f d outstanding late
    have code : port.rx.code = f.bytes.headD 0 := by
      rcases outstanding with pending | inService
      · rw [pending]
        rfl
      · rw [inService]
        rfl
    have limit : exec (.stretchLimit p) s = .next (returnFrame p (notReadyFrame port.rx.code) count stops s) := by
      refine congrArg Host.Outcome.next ?_
      rw [stretched]
    rw [limit, returnFrame, clocked_eq, code]
    rfl
  · refine congrArg Host.Outcome.next ?_
    rcases transaction : s.bus.get p with ⟨_ | ⟨count, stops⟩ | _ | _ | _, data⟩
    case stretched => exact absurd (congrArg Bus.transaction transaction) (free count stops)
    all_goals rfl
  · rw [exec_deferredInstallation_reads (.inr ⟨frame, sent, returning⟩), endRead_of_waiting returning waits, stops]
    rfl
  · rw [exec_deferredInstallation_reads (.inr ⟨frame, sent, returning⟩), endRead_of_none returning none, stops]
  · rw [exec_deferredInstallation_reads (.inl released), endRead_released released, stops]
    rfl
  · refine congrArg Host.Outcome.next ?_
    rcases other with idle | ⟨count, stops, stretched⟩ | ⟨scratch, marked, writing⟩
    · rw [idle]
    · rw [stretched]
    · rw [writing]

end

/-! PROOFS. The service of PENDING frames (R166 to R168, R174 to R176): what one service does, the rotation, and O45. -/

namespace Sys2Proof.Machine

/-! ### No service touches a receive state (R175) -/

theorem rx_of_port {p : Port} {s t : State} (same : t.port = s.port) :
    (t.port.ports.get p).rx = (s.port.ports.get p).rx := by rw [same]

theorem set_rx {ports : PerPort TargetPort} {p : Port} {t : TargetPort} (same : t.rx = (ports.get p).rx) (q : Port) :
    ((ports.set p t).get q).rx = (ports.get q).rx := by
  rcases eq_or_ne q p with rfl | other
  · simp [same]
  · simp [other]

theorem serveRequest_rx (p : Port) (r : Request) (b : List Byte) (s : State) (q : Port) :
    ((serveRequest p r b s).1.port.ports.get q).rx = (s.port.ports.get q).rx := by
  cases r with
  | statusQuery => exact set_rx (t := { s.port.ports.get p with overflow := false }) rfl q
  | portModeSet =>
    simp only [serveRequest, servePortModeSet]
    split
    · rfl
    · next mode _ => exact set_rx (t := { s.port.ports.get p with mode := mode }) rfl q
  | _ => exact rx_of_port (by simp [serveRequest])

theorem serveFrame_rx (p : Port) (f : Frame) (s : State) (q : Port) :
    ((serveFrame p f s).1.port.ports.get q).rx = (s.port.ports.get q).rx := by
  unfold serveFrame
  split
  · rfl
  · exact serveRequest_rx _ _ _ _ _

/-! ### The Soft Reset frame (R182) -/

/-- What a frame that passes the four checks shows (R177). -/
theorem checkFrame_ok {p : Port} {f : Frame} {r : Request} (pass : checkFrame p f = .ok r) :
    f.wellFormed = true ∧ Request.ofCode f.code = some r ∧ (r.role = none ∨ r.role = some p) ∧
      (f.bytes.drop 2).length = r.payload := by
  unfold checkFrame at pass
  by_cases well : f.wellFormed = true
  · rw [if_neg (by simp [well])] at pass
    cases known : Request.ofCode f.code with
    | none => simp [known] at pass
    | some r' =>
      simp only [known] at pass
      by_cases foreign : r'.role ≠ none ∧ r'.role ≠ some p
      · simp [foreign] at pass
      · rw [if_neg foreign] at pass
        by_cases length : (f.bytes.drop 2).length = r'.payload
        · rw [if_neg (not_not.mpr length)] at pass
          cases pass
          exact ⟨well, rfl, by tauto, length⟩
        · rw [if_pos length] at pass
          cases pass
  · simp [well] at pass

/-- Soft Reset's frame at DISPATCH is the only one whose service ends in a reset. -/
theorem isSoftReset_frame {p : Port} {f : Frame} (soft : isSoftReset p f = true) :
    p = .dispatch ∧ f = ⟨[0x65, 0], false⟩ := by
  have pass : checkFrame p f = .ok .softReset := by
    unfold isSoftReset at soft
    split at soft
    · assumption
    · cases soft
  obtain ⟨well, known, role, length⟩ := checkFrame_ok pass
  have code := ofCode_eq_some known
  have home : Request.softReset.role = some .dispatch := by decide
  rw [home] at role
  refine ⟨(Option.some.inj (role.resolve_left (by decide))).symm, ?_⟩
  obtain ⟨bytes, tooLong⟩ := f
  rcases bytes with _ | ⟨c, _ | ⟨n, payload⟩⟩
  · simp [Frame.wellFormed] at well
  · simp [Frame.wellFormed] at well
  · have empty : payload = [] := by simpa [Request.payload] using length
    subst empty
    simp only [Frame.wellFormed, Bool.and_eq_true, Bool.not_eq_true', beq_iff_eq] at well
    obtain ⟨short, count⟩ := well
    have zero : n = 0 := BitVec.eq_of_toNat_eq count.symm
    have named : c = 0x65 := code.symm
    rw [named, zero, short]

/-! ### One service (R167, R168, R171, R173) -/

/-- The frame in service, and the state after its request has acted. -/
theorem servePort_of_pending {p : Port} {f : Frame} {s : State} (pending : (s.port.ports.get p).rx = .pending f)
    (hard : isSoftReset p f = false) :
    servePort p s = completeService p f ((serveFrame p f (takeFrame p f s)).2.frame f.code)
      (serveFrame p f (takeFrame p f s)).1 := by
  simp only [servePort, pending, hard, Bool.false_eq_true, if_false]

theorem takeFrame_rx (p : Port) (f : Frame) (s : State) :
    ((takeFrame p f s).port.ports.get p).rx = .inService f none := by
  simp [takeFrame, setPort]

theorem served_rx (p : Port) (f : Frame) (s : State) :
    ((serveFrame p f (takeFrame p f s)).1.port.ports.get p).rx = .inService f none := by
  rw [serveFrame_rx, takeFrame_rx]

theorem completeService_of_free {p : Port} {s : State} (f : Frame) (response : List Byte)
    (free : (s.bus.get p).transaction = .idle ∨ (s.bus.get p).transaction = .released ∨
      ∃ scratch, (s.bus.get p).transaction = .writing scratch false) :
    completeService p f response s = install p response s := by
  rcases free with idle | released | ⟨scratch, writing⟩
  · simp only [completeService, endWriteInService, installResponse, idle]
  · simp only [completeService, endWriteInService, installResponse, released]
  · simp only [completeService, endWriteInService, installResponse, writing, Bool.false_eq_true, if_false]

theorem completeService_of_stretched {p : Port} {s : State} (f : Frame) (response : List Byte)
    {count : Nat} {stops : Bool} (stretched : (s.bus.get p).transaction = .stretched count stops) :
    completeService p f response s = returnFrame p response count stops (install p response s) := by
  simp only [completeService, endWriteInService, installResponse, stretched]

theorem completeService_of_returning {p : Port} {s : State} (f : Frame) (response : List Byte)
    {frame : List Byte} {n : Nat} (returning : (s.bus.get p).transaction = .returning frame n) :
    completeService p f response s =
      setPort p { s.port.ports.get p with rx := .inService f (some response) } s := by
  simp only [completeService, endWriteInService, installResponse, returning]

theorem completeService_of_overflow {p : Port} {s : State} (f : Frame) (response : List Byte) {scratch : Frame}
    (writing : (s.bus.get p).transaction = .writing scratch true) :
    completeService p f response s = install p response (endWrite p scratch s) := by
  have idle := endWrite_transaction p scratch s
  simp only [completeService, endWriteInService, writing, if_true, installResponse, idle]

/-! ### The rotation (R174, R176) -/

/-- A port's place in the rotation: the port after the pointer comes first. -/
abbrev State.place (s : State) (p : Port) : Nat := (p.index + 2 - s.port.rotation.index) % 3

/-- The handler takes the candidate that comes first in the rotation. -/
theorem choice_of_first {s : State} {q : Port} (candidate : s.candidate q = true)
    (first : ∀ r, r ≠ q → s.candidate r = true → s.place q < s.place r) : s.choice = some q := by
  have h1 := first .supply
  have h2 := first .climate
  have h3 := first .dispatch
  cases q <;> (cases r : s.port.rotation) <;> simp_all [State.choice, Port.next, State.place, Port.index]

/-- A frame stands PENDING at a port. -/
def State.standsPending (s : State) (p : Port) : Bool :=
  match (s.port.ports.get p).rx with
  | .pending _ => true
  | .empty => false
  | .inService _ _ => false

theorem standsPending_of_rx {s t : State} {p : Port} (same : (t.port.ports.get p).rx = (s.port.ports.get p).rx) :
    t.standsPending p = s.standsPending p := by
  unfold State.standsPending
  rw [same]

theorem pending_of_candidate {s : State} {p : Port} (candidate : s.candidate p = true) :
    ∃ f, (s.port.ports.get p).rx = .pending f := by
  unfold State.candidate at candidate
  split at candidate
  · exact ⟨_, by assumption⟩
  · cases candidate
  · cases candidate

theorem standsPending_of_candidate {s : State} {p : Port} (candidate : s.candidate p = true) :
    s.standsPending p = true := by
  obtain ⟨f, pending⟩ := pending_of_candidate candidate
  simp only [State.standsPending, pending]

theorem standsPending_clear {s : State} (clear : s.port.ports = .all .clear) (p : Port) : s.standsPending p = false := by
  simp [State.standsPending, clear, TargetPort.clear]

theorem endWriteInService_rx {p : Port} {s : State} (busy : (s.port.ports.get p).rx ≠ .empty) (q : Port) :
    ((endWriteInService p s).port.ports.get q).rx = (s.port.ports.get q).rx := by
  cases transaction : (s.bus.get p).transaction with
  | writing scratch marked =>
    simp only [endWriteInService, transaction]
    split
    · by_cases none : scratch.bytes = []
      · rw [endWrite_nil none]
        rfl
      · rw [endWrite_of_busy none busy]
        exact set_rx (t := { s.port.ports.get p with overflow := true }) rfl q
    · rfl
  | idle | stretched | returning | released => simp only [endWriteInService, transaction]

/-- An installation leaves the other ports, and no frame PENDING at its own. -/
theorem installResponse_standsPending {p q : Port} {f : Frame} {response : List Byte} {s : State}
    (stands : (installResponse p f response s).standsPending q = true) : q ≠ p ∧ s.standsPending q = true := by
  have replaced : ∀ t : TargetPort, (∀ g, t.rx ≠ .pending g) → ∀ u : State, u.port = (setPort p t s).port →
      u.standsPending q = true → q ≠ p ∧ s.standsPending q = true := by
    intro t settled u port pending
    rcases eq_or_ne q p with rfl | other
    · exfalso
      have rx : (u.port.ports.get q).rx = t.rx := by rw [port]; simp [setPort]
      unfold State.standsPending at pending
      rw [rx] at pending
      cases is : t.rx with
      | pending g => exact settled g is
      | empty | inService => rw [is] at pending; cases pending
    · have rx : (u.port.ports.get q).rx = (s.port.ports.get q).rx := by rw [port]; simp [setPort, other]
      exact ⟨other, by rw [← standsPending_of_rx rx]; exact pending⟩
  unfold installResponse at stands
  split at stands
  · exact replaced _ (by simp) _ rfl stands
  · exact replaced { s.port.ports.get p with rx := .empty, response := response } (by simp) _ rfl stands
  all_goals exact replaced { s.port.ports.get p with rx := .empty, response := response } (by simp) _ rfl stands

/-- A service brings no frame to a port: what stands PENDING after it stood so before, at another port. -/
theorem servePort_standsPending {p q : Port} {s : State} (candidate : s.candidate p = true)
    (stands : (servePort p s).standsPending q = true) : q ≠ p ∧ s.standsPending q = true := by
  obtain ⟨f, pending⟩ := pending_of_candidate candidate
  cases soft : isSoftReset p f with
  | true =>
    have fallen : (servePort p s).port.ports = .all .clear := by
      simp only [servePort, pending, soft, if_true]
      rfl
    rw [standsPending_clear fallen] at stands
    cases stands
  | false =>
    rw [servePort_of_pending pending soft, completeService] at stands
    obtain ⟨other, before⟩ := installResponse_standsPending stands
    have busy : ((serveFrame p f (takeFrame p f s)).1.port.ports.get p).rx ≠ .empty := by simp [served_rx]
    rw [standsPending_of_rx (endWriteInService_rx busy q), standsPending_of_rx (serveFrame_rx _ _ _ q)] at before
    refine ⟨other, ?_⟩
    rw [← standsPending_of_rx (s := s) (t := takeFrame p f s) (by simp [takeFrame, setPort, other])]
    exact before

/-! ### Services one after another (R174) -/

/-- The number of ports at which a frame stands PENDING. -/
def State.pendingCount (s : State) : Nat :=
  (s.standsPending .supply).toNat + (s.standsPending .climate).toNat + (s.standsPending .dispatch).toNat

theorem pendingCount_le (s : State) : s.pendingCount ≤ 3 := by
  have := (s.standsPending .supply).toNat_le
  have := (s.standsPending .climate).toNat_le
  have := (s.standsPending .dispatch).toNat_le
  unfold State.pendingCount
  omega

theorem servePort_pendingCount {p : Port} {s : State} (candidate : s.candidate p = true) :
    (servePort p s).pendingCount < s.pendingCount := by
  have own := standsPending_of_candidate candidate
  have kept : ∀ q, ((servePort p s).standsPending q).toNat ≤ (s.standsPending q).toNat := fun q =>
    Bool.toNat_le_toNat fun stands => (servePort_standsPending candidate stands).2
  have gone : (servePort p s).standsPending p = false := by
    by_contra stands
    exact (servePort_standsPending candidate (by simpa using stands)).1 rfl
  have h1 := kept .supply
  have h2 := kept .climate
  have h3 := kept .dispatch
  unfold State.pendingCount
  cases p <;> simp only [own, gone, Bool.toNat_true, Bool.toNat_false] at h1 h2 h3 ⊢ <;> omega

/-- With as many services as frames stand PENDING, a further one finds nothing. -/
theorem serveWhile_enough (more : State → Bool) (n : Nat) (s : State) (enough : s.pendingCount ≤ n) :
    serveWhile more (n + 1) s = serveWhile more n s := by
  induction n generalizing s with
  | zero =>
    have none : s.choice = none := by
      rw [State.choice, List.find?_eq_none]
      intro q _ candidate
      have := servePort_pendingCount candidate
      omega
    simp only [serveWhile, none, ite_self]
  | succ n ih =>
    rw [serveWhile, serveWhile]
    split
    · cases chosen : s.choice with
      | none => rfl
      | some q =>
        have fewer := servePort_pendingCount (choice_candidate chosen)
        exact ih _ (by omega)
    · rfl

/-- Where a frame has been released, the handler takes the candidate that comes first, and goes on. -/
theorem serveReleased_of_freed {before s : State} {p q : Port} (freed : before.run.held.get p = true)
    (waits : s.candidate p = true) (chosen : s.choice = some q) :
    serveReleased before s = serveReleased before (servePort q s) := by
  have awaits : s.awaitsFreed before.run.held = true := by
    cases p <;> simp_all [State.awaitsFreed, PerPort.get]
  have served : serveReleased before s = serveWhile (fun t => t.awaitsFreed before.run.held) 2 (servePort q s) := by
    rw [serveReleased, serveWhile, if_pos awaits, chosen]
  have fewer := servePort_pendingCount (choice_candidate chosen)
  have most := pendingCount_le s
  rw [served, serveReleased, serveWhile_enough _ 2 _ (by omega)]

/-! ### A command whose frame stands PENDING already (log 2, log 3) -/

theorem exec_of_requestFrame {c : Instr} {p : Port} {f : Frame} (named : requestFrame c = some (p, f)) (s : State) :
    exec c s = .next (request p f s) := by
  have arm : exec c s = requestCommand c s := by
    cases c <;> simp only [requestFrame, reduceCtorEq] at named <;> rfl
  rw [arm, requestCommand, named]

theorem candidate_eq_standsPending {s : State} (held : s.run.held = .all false) (p : Port) :
    s.candidate p = s.standsPending p := by
  unfold State.candidate State.standsPending
  cases (s.port.ports.get p).rx with
  | pending => simp [held]
  | empty | inService => rfl

theorem candidate_of_released {s : State} {p : Port} {g : Frame} (pending : (s.port.ports.get p).rx = .pending g)
    (held : s.run.held = .all false) : s.candidate p = true := by
  simp [State.candidate, pending, held]

theorem request_of_awaiting {s : State} {p : Port} {f : Frame} (awake : s.resetting = none) (bytes : f.bytes ≠ [])
    (pending : (s.port.ports.get p).rx = .pending f) (held : s.run.held = .all false) :
    request p f s = serveUpTo p 3 s := by
  have awaits : awaits p f s = true := by simp [awaits, pending, held]
  rw [request, if_neg (by simp [awake, bytes]), if_pos awaits]
  exact serveReleased_none fun q was => absurd was (by simp [held])

theorem request_of_different {s : State} {p : Port} {f g : Frame} (awake : s.resetting = none) (bytes : f.bytes ≠ [])
    (pending : (s.port.ports.get p).rx = .pending g) (different : g ≠ f) (idle : (s.bus.get p).transaction = .idle) :
    request p f s = raiseAt p .portOverflow (setPort p { s.port.ports.get p with overflow := true } s) := by
  have awaits : ¬awaits p f s = true := by simp [awaits, pending, different]
  rw [request, if_neg (by simp [awake, bytes]), if_neg awaits]
  simp only [pending, writeFrame, idle, deliver]

/-- The frame of a port that comes first is served before the command's own. -/
theorem serveUpTo_of_other {s : State} {p q : Port} (candidate : s.candidate p = true) (chosen : s.choice = some q)
    (other : q ≠ p) (n : Nat) : serveUpTo p (n + 1) s = serveUpTo p n (servePort q s) := by
  rw [serveUpTo, if_pos candidate]
  simp only [chosen, other, if_false]

end Sys2Proof.Machine

section
open Sys2Proof Sys2Proof.Machine

/-- Settles O45: one service by what stands on the bus (the `completeService_of_` lemmas), the command of a PENDING request
by the rotation (`choice_of_first`), and the released frames one after another (`serveReleased_of_freed`). -/
theorem pendingFrameServedByItsCommand : Obligations.PendingFrameServedByItsCommand := by
  refine ⟨fun p f s pending hard => ?_, fun c p f g s named bytes awake held pending => ⟨fun same alone => ?_,
    fun same q other first rest sooner => ?_, fun different idle => ?_⟩, fun before t => ?_⟩
  · intro port taken t reply after with_ installed
    have soft : isSoftReset p f = false := by
      by_contra is
      exact hard (isSoftReset_frame (by simpa using is))
    have served : servePort p s = completeService p f reply t := servePort_of_pending pending soft
    have bus : t.bus = s.bus := serveFrame_bus p f taken
    refine ⟨fun free => ?_, fun count stops stretched => ?_, fun frame n returning => ?_,
      fun scratch writing some => ?_⟩
    · exact served.trans (completeService_of_free f reply (by rw [bus]; exact free))
    · rw [served, completeService_of_stretched f reply (by rw [bus]; exact stretched), returnFrame, clocked_eq, ← bus]
      rfl
    · exact served.trans (completeService_of_returning f reply (by rw [bus]; exact returning))
    · have busy : (t.port.ports.get p).rx ≠ .empty := by
        have rx : (t.port.ports.get p).rx = .inService f none := served_rx p f s
        simp [rx]
      rw [served, completeService_of_overflow f reply (by rw [bus]; exact writing), endWrite_of_busy some busy]
      simp only [install, setPort, PerPort.get_set_self, PerPort.set_set, bus]
      rfl
  · subst same
    rw [exec_of_requestFrame named, request_of_awaiting awake bytes pending held,
      serveUpTo_single (candidate_of_released pending held) alone]
  · subst same
    intro u still
    have own := candidate_of_released pending held
    have chosen : s.choice = some q := choice_of_first first fun r apart candidate => by
      rcases eq_or_ne r p with rfl | third
      · exact sooner
      · exact absurd candidate (by simp [rest r third apart])
    have only : ∀ r, r ≠ p → u.candidate r = false := fun r apart => by
      by_contra waits
      obtain ⟨third, stood⟩ := servePort_standsPending first (standsPending_of_candidate (by simpa using waits))
      rw [← candidate_eq_standsPending held, rest r apart third] at stood
      cases stood
    rw [exec_of_requestFrame named, request_of_awaiting awake bytes pending held, serveUpTo_of_other own chosen other,
      serveUpTo_single still only]
  · rw [exec_of_requestFrame named, request_of_different awake bytes pending different idle]
    rfl
  · intro freed
    refine ⟨fun none => serveReleased_none fun p was => ?_, fun q ⟨p, was, waits⟩ candidate first =>
      serveReleased_of_freed was waits (choice_of_first candidate first)⟩
    by_contra waits
    exact none p ⟨was, by simpa using waits⟩

end

/-! PROOFS. The tick and the moments of its events (R3, R187, log 4): what a tick counts, which moment an event takes, and
O46, O47. -/

namespace Sys2Proof.Machine

/-! ### The parts of a tick (R3, R76, R103, R122) -/

/-- A state after the first part of a tick. -/
def State.begun (u : State) : State := { u with
  run := { u.run with
    remaining := if u.run.counting then u.run.remaining - 1 else u.run.remaining
    checkDue := decide (u.run.state = .scheduled) &&
      decide ((if u.run.counting then u.run.remaining - 1 else u.run.remaining) % u.plan.slotLength = 0) }
  loads := { u.loads with records := .ofFn fun l =>
    { u.loads.records.get l with age := min 65535 ((u.loads.records.get l).age + 1) } }
  power := { u.power with holdTimer := u.power.holdTimer.map (· - 1) }
  track := { u.track with sensorTimer := u.track.sensorTimer.map (· - 1) }
  log := { u.log with countDue := .due } }

theorem lowerTimer_eq (timer : Option Nat) : lowerTimer timer = timer.map (· - 1) := by
  cases timer <;> rfl

theorem countTime_eq (u : State) : countTime u = u.begun := by
  simp only [countTime, lowerTimer_eq, bump_eq_min]
  rfl

theorem closeTick_of_resetting {s : State} (asleep : s.resetting ≠ none) : closeTick s = s :=
  if_pos (Option.isSome_iff_ne_none.mpr asleep)

theorem closeTick_of_none {s : State} (finished : s.log.countDue = .none) : closeTick s = s := by
  unfold closeTick
  split
  · rfl
  · rw [finished]

theorem closeTick_of_outside {s : State} (awake : s.resetting = none) (outside : s.log.countDue = .outside) :
    closeTick s = { s with log := { s.log with countDue := .none } } := by
  rw [closeTick_eq awake, outside]

theorem closeTick_of_due {s : State} (awake : s.resetting = none) (due : s.log.countDue = .due) :
    closeTick s = s.counted := by
  rw [closeTick_eq awake, due]

theorem closeTick_countDue {s : State} (awake : s.resetting = none) : (closeTick s).log.countDue = .none := by
  cases due : s.log.countDue with
  | none => rw [closeTick_of_none due, due]
  | outside => rw [closeTick_of_outside awake due]
  | due => rw [closeTick_of_due awake due]; rfl

theorem openTick_of_awake {s : State} (awake : s.resetting = none) (stays : (beforeTick s).resetting = none) :
    openTick s = (beforeTick s).begun := by
  rw [openTick, if_neg (by simp [awake]), if_neg (by simp [stays]), countTime_eq]

theorem openTick_of_fall {s : State} (awake : s.resetting = none) (falls : (beforeTick s).resetting ≠ none) :
    openTick s = beforeTick s := by
  rw [openTick, if_neg (by simp [awake]), if_pos (Option.isSome_iff_ne_none.mpr falls)]

theorem openTick_of_resetting {s : State} (asleep : s.resetting ≠ none) : openTick s = s :=
  if_pos (Option.isSome_iff_ne_none.mpr asleep)

/-! ### The tick (log 3, log 4, log 9) -/

theorem tick_of_resetting {s : State} (asleep : s.resetting ≠ none) : tick s = s := by
  unfold tick
  split
  · rw [openTick_of_resetting asleep, closeTick_of_resetting asleep]
  all_goals exact closeTick_of_resetting asleep

theorem tick_of_begun {s : State} (begun : s.log.countDue ≠ .none) : tick s = closeTick s := by
  unfold tick
  split
  · next finished => exact absurd finished begun
  all_goals rfl

theorem tick_of_none {s : State} (finished : s.log.countDue = .none) : tick s = closeTick (openTick s) := by
  unfold tick
  rw [finished]

theorem serveWaiting_of_quiet {s : State} (quiet : s.quiet = true) : serveWaiting s = s := by
  simp only [State.quiet, Bool.and_eq_true, Bool.not_eq_true'] at quiet
  obtain ⟨⟨supply, climate⟩, dispatch⟩ := quiet
  have none : s.choice = none := by
    rw [State.choice, List.find?_eq_none]
    intro p _
    cases p <;> simp [*]
  simp only [serveWaiting, serveWhile, none, if_true]

/-! ### The moment of an event (log 4, log 6) -/

theorem tickThat_of_found {due : State → Bool} (act : State → State) {s t : State}
    (found : (moments s).find? (fun u => u.resetting.isNone && due u) = some t) : tickThat due act s = act t := by
  rw [tickThat, found]

theorem tickThat_of_none {due : State → Bool} (act : State → State) {s : State}
    (none : ∀ t ∈ moments s, (t.resetting.isNone && due t) = false) : tickThat due act s = s := by
  have missing : (moments s).find? (fun u => u.resetting.isNone && due u) = .none :=
    List.find?_eq_none.mpr fun t mem => by simp [none t mem]
  rw [tickThat, missing]

/-- The events that a tick brings. -/
theorem exec_tickEvent {c : Instr} {due : State → Bool}
    (event : (c, due) ∈ ([(.departureExpiry, State.expired), (.scheduleCheck, checkDue), (.phaseChange, phaseChangeDue),
      (.slotStart, slotStartDue), (.holdTimerExpiry, holdExpiryDue), (.startTimeout, startTimeoutDue),
      (.cooldownEnd, cooldownEndDue), (.minimumOnEnd, minimumOnEndDue), (.windscreenEnergySpent, screenSpentDue),
      (.sensorTimerExpiry, sensorExpiryDue)] : List (Instr × (State → Bool)))) :
    ∃ act, ∀ s, exec c s = .next (tickThat due act s) := by
  simp only [List.mem_cons, Prod.mk.injEq, List.not_mem_nil, or_false] at event
  rcases event with ⟨rfl, rfl⟩ | ⟨rfl, rfl⟩ | ⟨rfl, rfl⟩ | ⟨rfl, rfl⟩ | ⟨rfl, rfl⟩ | ⟨rfl, rfl⟩ | ⟨rfl, rfl⟩ |
    ⟨rfl, rfl⟩ | ⟨rfl, rfl⟩ | ⟨rfl, rfl⟩
  all_goals exact ⟨_, fun _ => rfl⟩

end Sys2Proof.Machine

section
open Sys2Proof Sys2Proof.Machine

/-- Settles O46: the tick finishes the one in progress (`tick_of_begun`), or is made whole (`tick_of_none`) after what
comes before it. -/
theorem timeBaseTickCounts : Obligations.TimeBaseTickCounts := by
  intro s counted
  refine ⟨fun asleep => congrArg Host.Outcome.next (tick_of_resetting asleep), fun awake due => ?_,
    fun awake outside => ?_, fun settled quiet => ?_, ?_⟩
  · have begun : s.log.countDue ≠ .none := by simp [due]
    exact congrArg Host.Outcome.next ((tick_of_begun begun).trans (closeTick_of_due awake due))
  · have begun : s.log.countDue ≠ .none := by simp [outside]
    exact congrArg Host.Outcome.next ((tick_of_begun begun).trans (closeTick_of_outside awake outside))
  · rw [beforeTick, settle_of_settled settled, serveWaiting_of_quiet quiet]
  · intro u awake finished stays remaining run
    have before : beforeTick s = u := rfl
    clear_value u
    have whole := (tick_of_none finished).trans (congrArg closeTick (openTick_of_awake awake (before ▸ stays)))
    rw [before, closeTick_of_due (by exact stays) rfl] at whole
    exact congrArg Host.Outcome.next whole

/-- Settles O47: each clause names the first moment at which the event is due, and the command given at that moment takes
it there (`tickThat_of_due`). -/
theorem tickEventsFallWithTheirTick : Obligations.TickEventsFallWithTheirTick := by
  intro c due event s awake notYet closed u remaining begun
  obtain ⟨act, falls⟩ := exec_tickEvent event
  have closes : closeTick s = closed := closeTick_eq awake
  have closedAwake : closed.resetting = none := by rw [← closes, closeTick_resetting, awake]
  have finished : closed.log.countDue = .none := by rw [← closes, closeTick_countDue awake]
  have before : beforeTick closed = u := rfl
  clear_value u
  clear_value closed
  have opens : u.resetting = none → openTick closed = begun := fun stays => by
    rw [openTick_of_awake closedAwake (before ▸ stays), before]
    rfl
  have list : moments s = [s, closed, openTick closed, closeTick (openTick closed)] := by
    rw [← closes]
    rfl
  refine ⟨fun now => ?_, fun notNow stays now => ?_, fun notNow stays notBegun now => ?_, fun notNow never => ?_⟩
  · have found := tickThat_of_found (due := due) act (s := s) (t := closed) (by simp [list, notYet, closedAwake, now])
    rw [falls, falls, found, tickThat_of_due act closedAwake now]
  · have opened := opens stays
    have begunAwake : begun.resetting = none := stays
    have found := tickThat_of_found (due := due) act (s := s) (t := begun)
      (by simp [list, notYet, notNow, opened, begunAwake, now])
    rw [falls, falls, found, tickThat_of_due act begunAwake now]
  · have opened := opens stays
    have begunAwake : begun.resetting = none := stays
    have counts : closeTick begun = begun.counted := closeTick_of_due begunAwake rfl
    have countedAwake : begun.counted.resetting = none := stays
    have falling : due begun.counted = true := now
    have found := tickThat_of_found (due := due) act (s := s) (t := begun.counted)
      (by simp [list, notYet, notNow, opened, notBegun, counts, countedAwake, falling])
    rw [falls, found]
    exact ((falls begun.counted).trans (congrArg Host.Outcome.next (tickThat_of_due act countedAwake falling))).symm
  · have missed : ∀ t ∈ moments s, (t.resetting.isNone && due t) = false := by
      by_cases stays : u.resetting = none
      · obtain ⟨notBegun, notCounted⟩ := never.resolve_left (not_not.mpr stays)
        have counts : closeTick begun = begun.counted := closeTick_of_due stays rfl
        have notFalling : due begun.counted = false := notCounted
        simp [list, notYet, notNow, opens stays, notBegun, counts, notFalling]
      · have opened : openTick closed = u := (openTick_of_fall closedAwake (before ▸ stays)).trans before
        simp [list, notYet, notNow, opened, closeTick_of_resetting stays, stays]
    rw [falls, tickThat_of_none act missed]

end

/-! PROOFS. The resets (spec 10, 10.5): the values that a fall sets, the Soft Reset request, the release, and O55, O56. -/

namespace Sys2Proof.Machine

/-! ### The Soft Reset request (R182, R191) -/

theorem softReset_isSoftReset : isSoftReset .dispatch (Request.softReset.frame []) = true := by decide

/-- At a ready DISPATCH the Soft Reset frame is served at once, and the reset falls on the state as it stood: the ports
take their reset values, and the service changes nothing else. -/
theorem request_softReset {s : State} (h : s.ready .dispatch = true) :
    request .dispatch (Request.softReset.frame []) s = fallSoft s := by
  obtain ⟨awake, empty, mine, idle, calm⟩ := (ready_iff s .dispatch).mp h
  have free : ¬(s.run.state = .planning ∧ heldCode (Request.softReset.frame []).code = true) := fun held =>
    absurd held.2 (by decide)
  have fresh : awaits .dispatch (Request.softReset.frame []) s = false := by simp [awaits, empty]
  have bytes : (Request.softReset.frame []).bytes ≠ [] := by decide
  have taken := serveUpTo_single
    (s := setPort .dispatch { s.port.ports.get .dispatch with
      rx := .pending (Request.softReset.frame []), response := busyResponse (Request.softReset.frame []).code } s)
    (p := .dispatch)
    (by rw [candidate_of_pending (f := Request.softReset.frame []) (by simp)]; simp [mine])
    (fun q hq => by
      have := calm q
      simpa [State.candidate, hq] using this) 2
  rw [request, if_neg (by simp [awake, bytes]), fresh]
  simp only [Bool.false_eq_true, if_false, empty, writeFrame_ready (Request.softReset.frame []) h free]
  rw [handle, taken, servePort]
  simp only [setPort_ports, PerPort.get_set_self, softReset_isSoftReset, if_true]
  exact serveReleased_none fun p _ => fallReset_candidate .soft _ _ p

/-! ### The values of a fall (R191, R192) -/

/-- Two states are the same when their blocks are. -/
theorem state_ext {s t : State} (run : s.run = t.run) (plan : s.plan = t.plan) (slots : s.slots = t.slots)
    (loads : s.loads = t.loads) (power : s.power = t.power) (track : s.track = t.track) (store : s.store = t.store)
    (router : s.router = t.router) (port : s.port = t.port) (bus : s.bus = t.bus) (log : s.log = t.log)
    (resetting : s.resetting = t.resetting) (pending : s.pending = t.pending) : s = t := by
  cases s
  cases t
  simp_all

theorem interruptedBy_of_held {k : ResetKind} (holds : k.holds = true) (s : State) :
    interruptedBy k s =
      if s.run.state = .planning ∨ s.run.state = .conditioning ∨ s.run.state = .maintain then
        some (s.takeEntry .reset)
      else s.log.interrupted := by
  rw [interruptedBy, if_pos holds]
  simp only [inRun_iff]

/-! ### The release (R161, R163, R192, R193) -/

theorem strapsOf_toNat (adsel1 adsel0 : Bool) :
    (strapsOf adsel1 adsel0).toNat = 2 * adsel1.toNat + adsel0.toNat := by
  cases adsel1 <;> cases adsel0 <;> rfl

theorem atRelease_eq : RouterBlock.atRelease = ⟨⟨0x60E3, 0x6912, 0x7403⟩, .all 0x4000⟩ := by decide

/-- The cause record after a release: a power-on reset alone, or the causes gathered. -/
theorem causes_after (old now : ResetCauses) :
    (now.por = true → old.after now = ⟨true, false, false⟩) ∧
      (now.por = false → (old.after now).por = old.por ∧
        ((old.after now).pin = true ↔ old.pin = true ∨ now.pin = true) ∧
        ((old.after now).soft = true ↔ old.soft = true ∨ now.soft = true)) := by
  refine ⟨fun por => if_pos por, fun other => ?_⟩
  have gathered : old.after now = ⟨old.por, old.pin || now.pin, old.soft || now.soft⟩ := if_neg (by simp [other])
  simp [gathered]

/-- A state whose reset has been released, with its log and run as given. -/
def State.released (s : State) (causes : ResetCauses) (straps : BitVec 2) : State := { s with
  port := { s.port with straps := straps }
  log := { s.log with interrupted := none, causes := s.log.causes.after causes }
  router := .atRelease
  resetting := none }

theorem release_of_none {s : State} (none : s.log.interrupted = .none) (causes : ResetCauses) (straps : BitVec 2) :
    release causes straps s = s.released causes straps := by
  simp only [release, appendInterrupted, none, State.released]

theorem release_of_some {s : State} {e : OutcomeEntry} (some : s.log.interrupted = .some e) (causes : ResetCauses)
    (straps : BitVec 2) : release causes straps s = (appendEntry e s).released causes straps := by
  simp only [release, appendInterrupted, some]
  rfl

end Sys2Proof.Machine

section
open Sys2Proof Sys2Proof.Machine

/-- Settles O55: each kind of fall sets the values of `fallReset`, and a Soft Reset request falls on the state as it stood
(`request_softReset`). -/
theorem resetFallSetsValues : Obligations.ResetFallSetsValues := by
  intro s values
  have buses : ∀ por causes, (PerPort.ofFn fun p => { s.bus.get p with
      transaction := (s.bus.get p).transaction.afterReset }) = (values por causes).bus := by
    intro por causes
    simp only [values]
    refine congrArg PerPort.ofFn (funext fun p => ?_)
    rcases s.bus.get p with ⟨_ | _ | _ | _ | _, data⟩ <;> rfl
  have falls : ∀ (k : ResetKind) causes, fallReset k causes s = values (!k.holds) causes := by
    intro k causes
    have held : k.holds = true → (fallReset k causes s).log = (values (!k.holds) causes).log := fun holds => by
      simp only [fallReset, interruptedBy_of_held holds, values, holds]
      rfl
    cases k with
    | por => exact state_ext rfl rfl rfl rfl rfl rfl rfl rfl rfl (buses true causes) rfl rfl rfl
    | pin => exact state_ext rfl rfl rfl rfl rfl rfl rfl rfl rfl (buses false causes) (held rfl) rfl rfl
    | soft => exact state_ext rfl rfl rfl rfl rfl rfl rfl rfl rfl (buses false causes) (held rfl) rfl rfl
  refine ⟨congrArg Host.Outcome.next (falls .por _), fun awake => ?_, fun ready => ?_, fun c asleep => ⟨fun por => ?_,
    fun other => ?_⟩⟩
  · have pin : exec .pinReset s = .next (fallReset .pin ⟨false, true, false⟩ s) := by
      refine congrArg Host.Outcome.next ?_
      rw [awake]
    rw [pin, falls]
    rfl
  · refine congrArg Host.Outcome.next ((request_softReset ready).trans ?_)
    exact falls .soft _
  · refine congrArg Host.Outcome.next ?_
    rw [asleep]
    exact if_pos por
  · refine congrArg Host.Outcome.next ?_
    rw [asleep]
    exact if_neg (by simp [other])

/-- Settles O56: the state is the released one, with the interrupted-run record appended where there is one. -/
theorem resetReleaseEndsReset : Obligations.ResetReleaseEndsReset := by
  intro adsel1 adsel0 s sent
  refine ⟨fun awake => ?_, fun c asleep => ?_⟩
  · refine congrArg Host.Outcome.next ?_
    rw [awake]
  · have released : sent = .next (release c (strapsOf adsel1 adsel0) s) := by
      refine congrArg Host.Outcome.next ?_
      rw [asleep]
    have straps := strapsOf_toNat adsel1 adsel0
    obtain ⟨por, gathered⟩ := causes_after s.log.causes c
    have attention : ∀ (u : State) (p : Port),
        (u.released c (strapsOf adsel1 adsel0)).attention p = true := fun u p => by cases p <;> rfl
    cases interrupted : s.log.interrupted with
    | none =>
      rw [release_of_none interrupted] at released
      exact ⟨_, released, rfl, straps, rfl, atRelease_eq, attention s, rfl, rfl, por, gathered, fun _ => ⟨rfl, rfl⟩,
        fun _ is => absurd is (by simp), rfl, rfl, rfl, rfl, rfl, rfl, rfl⟩
    | some e =>
      rw [release_of_some interrupted] at released
      exact ⟨_, released, rfl, straps, rfl, atRelease_eq, attention (appendEntry e s), rfl, rfl, por, gathered,
        fun is => absurd is (by simp),
        fun _ is => by cases is; exact ⟨rfl, rfl⟩, rfl, rfl, rfl, rfl, rfl, rfl, rfl⟩

end
